-- ==== Sys2Proof/Word.lean ====
section
/-!
DEFINITION. The two word types of the core (spec 00_scope.md R9, R10): an 8-bit byte and a 16-bit word. Addition and
subtraction on them wrap, which is the `u8` and `u16` of R10.
-/

namespace Sys2Proof

/-- A byte: the contents of A, X, Y, S, P and of one memory address (R9, R100, R207). -/
abbrev Byte := BitVec 8

/-- A word: the contents of PC and a bus address (R9, R105, R200). -/
abbrev Word := BitVec 16

end Sys2Proof
end

