-- ==== Sys2Proof/Machine/Bits.lean ====
section
/-!
DEFINITION. The byte and word helpers of the spec's notation (00_scope.md R10): `lo`, `hi`, concatenation, zero and sign
extension, truncation.
-/

namespace Sys2Proof

/-- `lo(w) = w[7:0]` (R10). -/
def lo (w : Word) : Byte := w.extractLsb' 0 8

/-- `hi(w) = w[15:8]` (R10): the page of an address. -/
def hi (w : Word) : Byte := w.extractLsb' 8 8

/-- `h:l`, the word with high byte `h` and low byte `l` (R10). -/
def word (h l : Byte) : Word := h ++ l

/-- `zext_16(b)` (R10): a byte as a zero-page address. -/
def zext (b : Byte) : Word := b.zeroExtend 16

/-- `sext_8(b)` as a word (R10): adding it to a word is `u16` of adding the signed value. -/
def sext (b : Byte) : Word := b.signExtend 16

/-- `u8` of a natural number (R10). -/
def u8 (n : Nat) : Byte := BitVec.ofNat 8 n

/-- `u8` of an integer, the mathematical modulus also for negative values (R10). -/
def u8i (n : Int) : Byte := BitVec.ofInt 8 n

end Sys2Proof
end

