-- ==== Sys2Proof/Syntax.lean ====
section
/-!
DEFINITION. The instructions as terms (spec 30_encoding.md R303, R305, R310 and files 41 to 47). `Instr` has one
constructor for each mnemonic of spec/opcode_table.json; a row of that table (one opcode byte) is a constructor with an
operand form, and `Instr.opcode?` (Decode.lean) says which byte it is.
-/

namespace Sys2Proof

/-- The 17 addressing modes (R303). -/
inductive Mode where
  | IMP | ACC | IMM | ZP | ZPX | ZPY | ABS | ABSX | ABSY | IND | INDX | INDY | REL | ZPIND | ABSINDX | ZPREL | STACK
  deriving DecidableEq, Repr

/-- An operand: an addressing mode with the operand bytes it consumes (R300, R303, R304). -/
inductive Operand where
  /-- implied -/
  | imp
  /-- accumulator -/
  | acc
  /-- immediate `#$nn` -/
  | imm (value : Byte)
  /-- zero page `$nn` -/
  | zp (addr : Byte)
  /-- zero page, X `$nn,X` -/
  | zpx (addr : Byte)
  /-- zero page, Y `$nn,Y` -/
  | zpy (addr : Byte)
  /-- absolute `$nnnn` -/
  | abs (addr : Word)
  /-- absolute, X `$nnnn,X` -/
  | absx (base : Word)
  /-- absolute, Y `$nnnn,Y` -/
  | absy (base : Word)
  /-- absolute indirect `($nnnn)` -/
  | ind (ptr : Word)
  /-- zero-page indexed indirect `($nn,X)` -/
  | indx (ptr : Byte)
  /-- zero-page indirect indexed `($nn),Y` -/
  | indy (ptr : Byte)
  /-- relative: a signed displacement -/
  | rel (disp : Byte)
  /-- zero-page indirect `($nn)` -/
  | zpind (ptr : Byte)
  /-- absolute indexed indirect `($nnnn,X)` -/
  | absindx (ptr : Word)
  /-- zero page and relative `$nn,$tttt` -/
  | zprel (addr disp : Byte)
  /-- stack -/
  | stack
  deriving DecidableEq, Repr

/-- The addressing mode of an operand. -/
def Operand.mode : Operand → Mode
  | .imp => .IMP
  | .acc => .ACC
  | .imm _ => .IMM
  | .zp _ => .ZP
  | .zpx _ => .ZPX
  | .zpy _ => .ZPY
  | .abs _ => .ABS
  | .absx _ => .ABSX
  | .absy _ => .ABSY
  | .ind _ => .IND
  | .indx _ => .INDX
  | .indy _ => .INDY
  | .rel _ => .REL
  | .zpind _ => .ZPIND
  | .absindx _ => .ABSINDX
  | .zprel _ _ => .ZPREL
  | .stack => .STACK

/-- The operation ids of a dispatch entry (R305): the 70 mnemonics of R310 and `UNDEF`. RMB, SMB, BBR and BBS are one
operation each; the bit index is a field of the opcode (R302). -/
inductive Operation where
  | ADC | AND | ASL | BBR | BBS | BCC | BCS | BEQ | BIT | BMI | BNE | BPL | BRA | BRK
  | BVC | BVS | CLC | CLD | CLI | CLV | CMP | CPX | CPY | DEC | DEX | DEY | EOR | INC
  | INX | INY | JMP | JSR | LDA | LDX | LDY | LSR | NOP | ORA | PHA | PHP | PHX | PHY
  | PLA | PLP | PLX | PLY | RMB | ROL | ROR | RTI | RTS | SBC | SEC | SED | SEI | SMB
  | STA | STP | STX | STY | STZ | TAX | TAY | TRB | TSB | TSX | TXA | TXS | TYA | WAI
  | UNDEF
  deriving DecidableEq, Repr

/-- The instructions: one constructor for each mnemonic of spec/opcode_table.json. -/
inductive Instr where
  -- Loads and stores (41_load_store.md)
  /-- LDA (R501): load accumulator. -/
  | lda (o : Operand)
  /-- LDX (R502): load X. -/
  | ldx (o : Operand)
  /-- LDY (R503): load Y. -/
  | ldy (o : Operand)
  /-- STA (R504): store accumulator. -/
  | sta (o : Operand)
  /-- STX (R505): store X. -/
  | stx (o : Operand)
  /-- STY (R506): store Y. -/
  | sty (o : Operand)
  /-- STZ (R507): store zero. -/
  | stz (o : Operand)
  -- Register transfers, pushes and pulls (42_transfer_stack.md)
  /-- TAX (R601): transfer A to X. -/
  | tax
  /-- TAY (R602): transfer A to Y. -/
  | tay
  /-- TSX (R603): transfer S to X. -/
  | tsx
  /-- TXA (R604): transfer X to A. -/
  | txa
  /-- TXS (R605): transfer X to S. -/
  | txs
  /-- TYA (R606): transfer Y to A. -/
  | tya
  /-- PHA (R607): push A. -/
  | pha
  /-- PHP (R608): push P. -/
  | php
  /-- PLA (R609): pull A. -/
  | pla
  /-- PLP (R610): pull P. -/
  | plp
  /-- PHX (R611): push X. -/
  | phx
  /-- PHY (R612): push Y. -/
  | phy
  /-- PLX (R613): pull X. -/
  | plx
  /-- PLY (R614): pull Y. -/
  | ply
  -- Arithmetic (43_arithmetic.md)
  /-- ADC (R710): add with carry. -/
  | adc (o : Operand)
  /-- SBC (R711): subtract with borrow. -/
  | sbc (o : Operand)
  /-- CMP (R712): compare with A. -/
  | cmp (o : Operand)
  /-- CPX (R713): compare with X. -/
  | cpx (o : Operand)
  /-- CPY (R714): compare with Y. -/
  | cpy (o : Operand)
  /-- INC (R715): increment memory or A. -/
  | inc (o : Operand)
  /-- DEC (R716): decrement memory or A. -/
  | dec (o : Operand)
  /-- INX (R717): increment X. -/
  | inx
  /-- INY (R718): increment Y. -/
  | iny
  /-- DEX (R719): decrement X. -/
  | dex
  /-- DEY (R720): decrement Y. -/
  | dey
  -- Logical and bit operations (44_logic_bit.md)
  /-- AND (R801): logical and with A. -/
  | and (o : Operand)
  /-- ORA (R802): logical or with A. -/
  | ora (o : Operand)
  /-- EOR (R803): exclusive or with A. -/
  | eor (o : Operand)
  /-- BIT (R804): test bits of memory against A. -/
  | bit (o : Operand)
  /-- TRB (R805): test and reset bits. -/
  | trb (o : Operand)
  /-- TSB (R806): test and set bits. -/
  | tsb (o : Operand)
  /-- RMB0 (R807): reset memory bit 0. -/
  | rmb0 (zp : Byte)
  /-- RMB1 (R807): reset memory bit 1. -/
  | rmb1 (zp : Byte)
  /-- RMB2 (R807): reset memory bit 2. -/
  | rmb2 (zp : Byte)
  /-- RMB3 (R807): reset memory bit 3. -/
  | rmb3 (zp : Byte)
  /-- RMB4 (R807): reset memory bit 4. -/
  | rmb4 (zp : Byte)
  /-- RMB5 (R807): reset memory bit 5. -/
  | rmb5 (zp : Byte)
  /-- RMB6 (R807): reset memory bit 6. -/
  | rmb6 (zp : Byte)
  /-- RMB7 (R807): reset memory bit 7. -/
  | rmb7 (zp : Byte)
  /-- SMB0 (R808): set memory bit 0. -/
  | smb0 (zp : Byte)
  /-- SMB1 (R808): set memory bit 1. -/
  | smb1 (zp : Byte)
  /-- SMB2 (R808): set memory bit 2. -/
  | smb2 (zp : Byte)
  /-- SMB3 (R808): set memory bit 3. -/
  | smb3 (zp : Byte)
  /-- SMB4 (R808): set memory bit 4. -/
  | smb4 (zp : Byte)
  /-- SMB5 (R808): set memory bit 5. -/
  | smb5 (zp : Byte)
  /-- SMB6 (R808): set memory bit 6. -/
  | smb6 (zp : Byte)
  /-- SMB7 (R808): set memory bit 7. -/
  | smb7 (zp : Byte)
  -- Shifts and rotates (45_shift_rotate.md)
  /-- ASL (R901): arithmetic shift left. -/
  | asl (o : Operand)
  /-- LSR (R902): logical shift right. -/
  | lsr (o : Operand)
  /-- ROL (R903): rotate left through carry. -/
  | rol (o : Operand)
  /-- ROR (R904): rotate right through carry. -/
  | ror (o : Operand)
  -- Branches, jumps and subroutines (46_control.md)
  /-- BPL (R1010): branch if plus. -/
  | bpl (disp : Byte)
  /-- BMI (R1011): branch if minus. -/
  | bmi (disp : Byte)
  /-- BVC (R1012): branch if overflow clear. -/
  | bvc (disp : Byte)
  /-- BVS (R1013): branch if overflow set. -/
  | bvs (disp : Byte)
  /-- BCC (R1014): branch if carry clear. -/
  | bcc (disp : Byte)
  /-- BCS (R1015): branch if carry set. -/
  | bcs (disp : Byte)
  /-- BNE (R1016): branch if not equal. -/
  | bne (disp : Byte)
  /-- BEQ (R1017): branch if equal. -/
  | beq (disp : Byte)
  /-- BRA (R1018): branch always. -/
  | bra (disp : Byte)
  /-- BBR0 (R1019): branch on bit 0 reset. -/
  | bbr0 (zp disp : Byte)
  /-- BBR1 (R1019): branch on bit 1 reset. -/
  | bbr1 (zp disp : Byte)
  /-- BBR2 (R1019): branch on bit 2 reset. -/
  | bbr2 (zp disp : Byte)
  /-- BBR3 (R1019): branch on bit 3 reset. -/
  | bbr3 (zp disp : Byte)
  /-- BBR4 (R1019): branch on bit 4 reset. -/
  | bbr4 (zp disp : Byte)
  /-- BBR5 (R1019): branch on bit 5 reset. -/
  | bbr5 (zp disp : Byte)
  /-- BBR6 (R1019): branch on bit 6 reset. -/
  | bbr6 (zp disp : Byte)
  /-- BBR7 (R1019): branch on bit 7 reset. -/
  | bbr7 (zp disp : Byte)
  /-- BBS0 (R1020): branch on bit 0 set. -/
  | bbs0 (zp disp : Byte)
  /-- BBS1 (R1020): branch on bit 1 set. -/
  | bbs1 (zp disp : Byte)
  /-- BBS2 (R1020): branch on bit 2 set. -/
  | bbs2 (zp disp : Byte)
  /-- BBS3 (R1020): branch on bit 3 set. -/
  | bbs3 (zp disp : Byte)
  /-- BBS4 (R1020): branch on bit 4 set. -/
  | bbs4 (zp disp : Byte)
  /-- BBS5 (R1020): branch on bit 5 set. -/
  | bbs5 (zp disp : Byte)
  /-- BBS6 (R1020): branch on bit 6 set. -/
  | bbs6 (zp disp : Byte)
  /-- BBS7 (R1020): branch on bit 7 set. -/
  | bbs7 (zp disp : Byte)
  /-- JMP (R1021): jump. -/
  | jmp (o : Operand)
  /-- JSR (R1022): jump to subroutine. -/
  | jsr (target : Word)
  /-- RTS (R1023): return from subroutine. -/
  | rts
  -- Flag instructions, no-ops, BRK, RTI, WAI and STP (47_flags_system.md)
  /-- CLC (R1101): clear carry. -/
  | clc
  /-- CLD (R1102): clear decimal. -/
  | cld
  /-- CLI (R1103): clear interrupt disable. -/
  | cli
  /-- CLV (R1104): clear overflow. -/
  | clv
  /-- SEC (R1105): set carry. -/
  | sec
  /-- SED (R1106): set decimal. -/
  | sed
  /-- SEI (R1107): set interrupt disable. -/
  | sei
  /-- NOP (R1108): no operation. -/
  | nop
  /-- UNDEF (R1109): the diagnostic no-op of the 44 undefined opcode bytes; the byte itself is `op`. -/
  | undef (op : Byte) (o : Operand)
  /-- BRK (R1110): software interrupt. -/
  | brk
  /-- RTI (R1111): return from interrupt. -/
  | rti
  /-- WAI (R1112): wait for interrupt. -/
  | wai
  /-- STP (R1113): stop the processor. -/
  | stp
  deriving DecidableEq, Repr

/-- The operation id of an instruction (R305). -/
def Instr.operation : Instr → Operation
  | .lda _ => .LDA
  | .ldx _ => .LDX
  | .ldy _ => .LDY
  | .sta _ => .STA
  | .stx _ => .STX
  | .sty _ => .STY
  | .stz _ => .STZ
  | .tax => .TAX
  | .tay => .TAY
  | .tsx => .TSX
  | .txa => .TXA
  | .txs => .TXS
  | .tya => .TYA
  | .pha => .PHA
  | .php => .PHP
  | .pla => .PLA
  | .plp => .PLP
  | .phx => .PHX
  | .phy => .PHY
  | .plx => .PLX
  | .ply => .PLY
  | .adc _ => .ADC
  | .sbc _ => .SBC
  | .cmp _ => .CMP
  | .cpx _ => .CPX
  | .cpy _ => .CPY
  | .inc _ => .INC
  | .dec _ => .DEC
  | .inx => .INX
  | .iny => .INY
  | .dex => .DEX
  | .dey => .DEY
  | .and _ => .AND
  | .ora _ => .ORA
  | .eor _ => .EOR
  | .bit _ => .BIT
  | .trb _ => .TRB
  | .tsb _ => .TSB
  | .rmb0 _ => .RMB
  | .rmb1 _ => .RMB
  | .rmb2 _ => .RMB
  | .rmb3 _ => .RMB
  | .rmb4 _ => .RMB
  | .rmb5 _ => .RMB
  | .rmb6 _ => .RMB
  | .rmb7 _ => .RMB
  | .smb0 _ => .SMB
  | .smb1 _ => .SMB
  | .smb2 _ => .SMB
  | .smb3 _ => .SMB
  | .smb4 _ => .SMB
  | .smb5 _ => .SMB
  | .smb6 _ => .SMB
  | .smb7 _ => .SMB
  | .asl _ => .ASL
  | .lsr _ => .LSR
  | .rol _ => .ROL
  | .ror _ => .ROR
  | .bpl _ => .BPL
  | .bmi _ => .BMI
  | .bvc _ => .BVC
  | .bvs _ => .BVS
  | .bcc _ => .BCC
  | .bcs _ => .BCS
  | .bne _ => .BNE
  | .beq _ => .BEQ
  | .bra _ => .BRA
  | .bbr0 _ _ => .BBR
  | .bbr1 _ _ => .BBR
  | .bbr2 _ _ => .BBR
  | .bbr3 _ _ => .BBR
  | .bbr4 _ _ => .BBR
  | .bbr5 _ _ => .BBR
  | .bbr6 _ _ => .BBR
  | .bbr7 _ _ => .BBR
  | .bbs0 _ _ => .BBS
  | .bbs1 _ _ => .BBS
  | .bbs2 _ _ => .BBS
  | .bbs3 _ _ => .BBS
  | .bbs4 _ _ => .BBS
  | .bbs5 _ _ => .BBS
  | .bbs6 _ _ => .BBS
  | .bbs7 _ _ => .BBS
  | .jmp _ => .JMP
  | .jsr _ => .JSR
  | .rts => .RTS
  | .clc => .CLC
  | .cld => .CLD
  | .cli => .CLI
  | .clv => .CLV
  | .sec => .SEC
  | .sed => .SED
  | .sei => .SEI
  | .nop => .NOP
  | .undef _ _ => .UNDEF
  | .brk => .BRK
  | .rti => .RTI
  | .wai => .WAI
  | .stp => .STP

/-- The operand of an instruction: its mode and operand bytes. -/
def Instr.operand : Instr → Operand
  | .lda o => o
  | .ldx o => o
  | .ldy o => o
  | .sta o => o
  | .stx o => o
  | .sty o => o
  | .stz o => o
  | .tax => .imp
  | .tay => .imp
  | .tsx => .imp
  | .txa => .imp
  | .txs => .imp
  | .tya => .imp
  | .pha => .stack
  | .php => .stack
  | .pla => .stack
  | .plp => .stack
  | .phx => .stack
  | .phy => .stack
  | .plx => .stack
  | .ply => .stack
  | .adc o => o
  | .sbc o => o
  | .cmp o => o
  | .cpx o => o
  | .cpy o => o
  | .inc o => o
  | .dec o => o
  | .inx => .imp
  | .iny => .imp
  | .dex => .imp
  | .dey => .imp
  | .and o => o
  | .ora o => o
  | .eor o => o
  | .bit o => o
  | .trb o => o
  | .tsb o => o
  | .rmb0 zp => .zp zp
  | .rmb1 zp => .zp zp
  | .rmb2 zp => .zp zp
  | .rmb3 zp => .zp zp
  | .rmb4 zp => .zp zp
  | .rmb5 zp => .zp zp
  | .rmb6 zp => .zp zp
  | .rmb7 zp => .zp zp
  | .smb0 zp => .zp zp
  | .smb1 zp => .zp zp
  | .smb2 zp => .zp zp
  | .smb3 zp => .zp zp
  | .smb4 zp => .zp zp
  | .smb5 zp => .zp zp
  | .smb6 zp => .zp zp
  | .smb7 zp => .zp zp
  | .asl o => o
  | .lsr o => o
  | .rol o => o
  | .ror o => o
  | .bpl disp => .rel disp
  | .bmi disp => .rel disp
  | .bvc disp => .rel disp
  | .bvs disp => .rel disp
  | .bcc disp => .rel disp
  | .bcs disp => .rel disp
  | .bne disp => .rel disp
  | .beq disp => .rel disp
  | .bra disp => .rel disp
  | .bbr0 zp disp => .zprel zp disp
  | .bbr1 zp disp => .zprel zp disp
  | .bbr2 zp disp => .zprel zp disp
  | .bbr3 zp disp => .zprel zp disp
  | .bbr4 zp disp => .zprel zp disp
  | .bbr5 zp disp => .zprel zp disp
  | .bbr6 zp disp => .zprel zp disp
  | .bbr7 zp disp => .zprel zp disp
  | .bbs0 zp disp => .zprel zp disp
  | .bbs1 zp disp => .zprel zp disp
  | .bbs2 zp disp => .zprel zp disp
  | .bbs3 zp disp => .zprel zp disp
  | .bbs4 zp disp => .zprel zp disp
  | .bbs5 zp disp => .zprel zp disp
  | .bbs6 zp disp => .zprel zp disp
  | .bbs7 zp disp => .zprel zp disp
  | .jmp o => o
  | .jsr target => .abs target
  | .rts => .stack
  | .clc => .imp
  | .cld => .imp
  | .cli => .imp
  | .clv => .imp
  | .sec => .imp
  | .sed => .imp
  | .sei => .imp
  | .nop => .imp
  | .undef _ o => o
  | .brk => .stack
  | .rti => .stack
  | .wai => .imp
  | .stp => .imp

end Sys2Proof
end

