-- ==== Sys2Proof/WellFormed.lean ====
section
/-!
DEFINITION. Which terms are instructions: an instruction with an operand argument takes the modes its rule's "Operands"
line lists (files 41 to 47), and UNDEF takes one of the 44 undefined opcode bytes with the mode R311 gives that byte.
Every other constructor is well formed for all its operand bytes.
-/

namespace Sys2Proof

/-- The 44 undefined opcode bytes and the mode of each (30_encoding.md R311). -/
def undefMode (op : Byte) : Option Mode :=
  if op ∈ [0x02#8, 0x22#8, 0x42#8, 0x62#8, 0x82#8, 0xC2#8, 0xE2#8] then some .IMM
  else if op = 0x44#8 then some .ZP
  else if op ∈ [0x54#8, 0xD4#8, 0xF4#8] then some .ZPX
  else if op ∈ [0x5C#8, 0xDC#8, 0xFC#8] then some .ABS
  else if op ∈ [0x03#8, 0x13#8, 0x23#8, 0x33#8, 0x43#8, 0x53#8, 0x63#8, 0x73#8, 0x83#8, 0x93#8, 0xA3#8, 0xB3#8, 0xC3#8,
    0xD3#8, 0xE3#8, 0xF3#8] then some .IMP
  else if op ∈ [0x0B#8, 0x1B#8, 0x2B#8, 0x3B#8, 0x4B#8, 0x5B#8, 0x6B#8, 0x7B#8, 0x8B#8, 0x9B#8, 0xAB#8, 0xBB#8, 0xEB#8,
    0xFB#8] then some .IMP
  else none

/-- The instruction's operand has a mode its rule lists ("Operands" of R501 to R904, R1021; R311 for UNDEF). -/
def Instr.wf : Instr → Bool
  | .lda o => decide (o.mode ∈ [.IMM, .ZP, .ZPX, .ABS, .ABSX, .ABSY, .INDX, .INDY, .ZPIND])
  | .ldx o => decide (o.mode ∈ [.IMM, .ZP, .ZPY, .ABS, .ABSY])
  | .ldy o => decide (o.mode ∈ [.IMM, .ZP, .ZPX, .ABS, .ABSX])
  | .sta o => decide (o.mode ∈ [.ZP, .ZPX, .ABS, .ABSX, .ABSY, .INDX, .INDY, .ZPIND])
  | .stx o => decide (o.mode ∈ [.ZP, .ZPY, .ABS])
  | .sty o => decide (o.mode ∈ [.ZP, .ZPX, .ABS])
  | .stz o => decide (o.mode ∈ [.ZP, .ZPX, .ABS, .ABSX])
  | .tax => true
  | .tay => true
  | .tsx => true
  | .txa => true
  | .txs => true
  | .tya => true
  | .pha => true
  | .php => true
  | .pla => true
  | .plp => true
  | .phx => true
  | .phy => true
  | .plx => true
  | .ply => true
  | .adc o => decide (o.mode ∈ [.IMM, .ZP, .ZPX, .ABS, .ABSX, .ABSY, .INDX, .INDY, .ZPIND])
  | .sbc o => decide (o.mode ∈ [.IMM, .ZP, .ZPX, .ABS, .ABSX, .ABSY, .INDX, .INDY, .ZPIND])
  | .cmp o => decide (o.mode ∈ [.IMM, .ZP, .ZPX, .ABS, .ABSX, .ABSY, .INDX, .INDY, .ZPIND])
  | .cpx o => decide (o.mode ∈ [.IMM, .ZP, .ABS])
  | .cpy o => decide (o.mode ∈ [.IMM, .ZP, .ABS])
  | .inc o => decide (o.mode ∈ [.ACC, .ZP, .ZPX, .ABS, .ABSX])
  | .dec o => decide (o.mode ∈ [.ACC, .ZP, .ZPX, .ABS, .ABSX])
  | .inx => true
  | .iny => true
  | .dex => true
  | .dey => true
  | .and o => decide (o.mode ∈ [.IMM, .ZP, .ZPX, .ABS, .ABSX, .ABSY, .INDX, .INDY, .ZPIND])
  | .ora o => decide (o.mode ∈ [.IMM, .ZP, .ZPX, .ABS, .ABSX, .ABSY, .INDX, .INDY, .ZPIND])
  | .eor o => decide (o.mode ∈ [.IMM, .ZP, .ZPX, .ABS, .ABSX, .ABSY, .INDX, .INDY, .ZPIND])
  | .bit o => decide (o.mode ∈ [.IMM, .ZP, .ZPX, .ABS, .ABSX])
  | .trb o => decide (o.mode ∈ [.ZP, .ABS])
  | .tsb o => decide (o.mode ∈ [.ZP, .ABS])
  | .rmb0 _ => true
  | .rmb1 _ => true
  | .rmb2 _ => true
  | .rmb3 _ => true
  | .rmb4 _ => true
  | .rmb5 _ => true
  | .rmb6 _ => true
  | .rmb7 _ => true
  | .smb0 _ => true
  | .smb1 _ => true
  | .smb2 _ => true
  | .smb3 _ => true
  | .smb4 _ => true
  | .smb5 _ => true
  | .smb6 _ => true
  | .smb7 _ => true
  | .asl o => decide (o.mode ∈ [.ACC, .ZP, .ZPX, .ABS, .ABSX])
  | .lsr o => decide (o.mode ∈ [.ACC, .ZP, .ZPX, .ABS, .ABSX])
  | .rol o => decide (o.mode ∈ [.ACC, .ZP, .ZPX, .ABS, .ABSX])
  | .ror o => decide (o.mode ∈ [.ACC, .ZP, .ZPX, .ABS, .ABSX])
  | .bpl _ => true
  | .bmi _ => true
  | .bvc _ => true
  | .bvs _ => true
  | .bcc _ => true
  | .bcs _ => true
  | .bne _ => true
  | .beq _ => true
  | .bra _ => true
  | .bbr0 _ _ => true
  | .bbr1 _ _ => true
  | .bbr2 _ _ => true
  | .bbr3 _ _ => true
  | .bbr4 _ _ => true
  | .bbr5 _ _ => true
  | .bbr6 _ _ => true
  | .bbr7 _ _ => true
  | .bbs0 _ _ => true
  | .bbs1 _ _ => true
  | .bbs2 _ _ => true
  | .bbs3 _ _ => true
  | .bbs4 _ _ => true
  | .bbs5 _ _ => true
  | .bbs6 _ _ => true
  | .bbs7 _ _ => true
  | .jmp o => decide (o.mode ∈ [.ABS, .IND, .ABSINDX])
  | .jsr _ => true
  | .rts => true
  | .clc => true
  | .cld => true
  | .cli => true
  | .clv => true
  | .sec => true
  | .sed => true
  | .sei => true
  | .nop => true
  | .undef op o => decide (undefMode op = some o.mode)
  | .brk => true
  | .rti => true
  | .wai => true
  | .stp => true

end Sys2Proof
end

