-- ==== Sys2Proof/Decode.lean ====
section
/-!
DEFINITION. The instruction decoder and the encoder. The decoder is the 256-entry dispatch table of 30_encoding.md R310
("the 256-entry table is the decoder", R302), read row by row. The encoder is written from the "Encoding" line of each
instruction's own rule in files 41 to 47 and from R311, so that the two transcriptions of the opcode map check each
other.
-/

namespace Sys2Proof

/-! ## The dispatch table (R305, R310) -/

/-- A dispatch entry: "immutable record (operation id, addressing-mode id, base cycle count)" (R305). -/
structure Entry where
  operation : Operation
  mode : Mode
  cycles : Nat
  deriving DecidableEq, Repr

/-- Row 0x of the table of R310. -/
def tableRow0 : List Entry :=
  [⟨.BRK, .STACK, 7⟩, ⟨.ORA, .INDX, 6⟩, ⟨.UNDEF, .IMM, 2⟩, ⟨.UNDEF, .IMP, 1⟩,
   ⟨.TSB, .ZP, 5⟩, ⟨.ORA, .ZP, 3⟩, ⟨.ASL, .ZP, 5⟩, ⟨.RMB, .ZP, 5⟩,
   ⟨.PHP, .STACK, 3⟩, ⟨.ORA, .IMM, 2⟩, ⟨.ASL, .ACC, 2⟩, ⟨.UNDEF, .IMP, 1⟩,
   ⟨.TSB, .ABS, 6⟩, ⟨.ORA, .ABS, 4⟩, ⟨.ASL, .ABS, 6⟩, ⟨.BBR, .ZPREL, 5⟩]

/-- Row 1x of the table of R310. -/
def tableRow1 : List Entry :=
  [⟨.BPL, .REL, 2⟩, ⟨.ORA, .INDY, 5⟩, ⟨.ORA, .ZPIND, 5⟩, ⟨.UNDEF, .IMP, 1⟩,
   ⟨.TRB, .ZP, 5⟩, ⟨.ORA, .ZPX, 4⟩, ⟨.ASL, .ZPX, 6⟩, ⟨.RMB, .ZP, 5⟩,
   ⟨.CLC, .IMP, 2⟩, ⟨.ORA, .ABSY, 4⟩, ⟨.INC, .ACC, 2⟩, ⟨.UNDEF, .IMP, 1⟩,
   ⟨.TRB, .ABS, 6⟩, ⟨.ORA, .ABSX, 4⟩, ⟨.ASL, .ABSX, 7⟩, ⟨.BBR, .ZPREL, 5⟩]

/-- Row 2x of the table of R310. -/
def tableRow2 : List Entry :=
  [⟨.JSR, .ABS, 6⟩, ⟨.AND, .INDX, 6⟩, ⟨.UNDEF, .IMM, 2⟩, ⟨.UNDEF, .IMP, 1⟩,
   ⟨.BIT, .ZP, 3⟩, ⟨.AND, .ZP, 3⟩, ⟨.ROL, .ZP, 5⟩, ⟨.RMB, .ZP, 5⟩,
   ⟨.PLP, .STACK, 4⟩, ⟨.AND, .IMM, 2⟩, ⟨.ROL, .ACC, 2⟩, ⟨.UNDEF, .IMP, 1⟩,
   ⟨.BIT, .ABS, 4⟩, ⟨.AND, .ABS, 4⟩, ⟨.ROL, .ABS, 6⟩, ⟨.BBR, .ZPREL, 5⟩]

/-- Row 3x of the table of R310. -/
def tableRow3 : List Entry :=
  [⟨.BMI, .REL, 2⟩, ⟨.AND, .INDY, 5⟩, ⟨.AND, .ZPIND, 5⟩, ⟨.UNDEF, .IMP, 1⟩,
   ⟨.BIT, .ZPX, 4⟩, ⟨.AND, .ZPX, 4⟩, ⟨.ROL, .ZPX, 6⟩, ⟨.RMB, .ZP, 5⟩,
   ⟨.SEC, .IMP, 2⟩, ⟨.AND, .ABSY, 4⟩, ⟨.DEC, .ACC, 2⟩, ⟨.UNDEF, .IMP, 1⟩,
   ⟨.BIT, .ABSX, 4⟩, ⟨.AND, .ABSX, 4⟩, ⟨.ROL, .ABSX, 7⟩, ⟨.BBR, .ZPREL, 5⟩]

/-- Row 4x of the table of R310. -/
def tableRow4 : List Entry :=
  [⟨.RTI, .STACK, 6⟩, ⟨.EOR, .INDX, 6⟩, ⟨.UNDEF, .IMM, 2⟩, ⟨.UNDEF, .IMP, 1⟩,
   ⟨.UNDEF, .ZP, 3⟩, ⟨.EOR, .ZP, 3⟩, ⟨.LSR, .ZP, 5⟩, ⟨.RMB, .ZP, 5⟩,
   ⟨.PHA, .STACK, 3⟩, ⟨.EOR, .IMM, 2⟩, ⟨.LSR, .ACC, 2⟩, ⟨.UNDEF, .IMP, 1⟩,
   ⟨.JMP, .ABS, 3⟩, ⟨.EOR, .ABS, 4⟩, ⟨.LSR, .ABS, 6⟩, ⟨.BBR, .ZPREL, 5⟩]

/-- Row 5x of the table of R310. -/
def tableRow5 : List Entry :=
  [⟨.BVC, .REL, 2⟩, ⟨.EOR, .INDY, 5⟩, ⟨.EOR, .ZPIND, 5⟩, ⟨.UNDEF, .IMP, 1⟩,
   ⟨.UNDEF, .ZPX, 4⟩, ⟨.EOR, .ZPX, 4⟩, ⟨.LSR, .ZPX, 6⟩, ⟨.RMB, .ZP, 5⟩,
   ⟨.CLI, .IMP, 2⟩, ⟨.EOR, .ABSY, 4⟩, ⟨.PHY, .STACK, 3⟩, ⟨.UNDEF, .IMP, 1⟩,
   ⟨.UNDEF, .ABS, 8⟩, ⟨.EOR, .ABSX, 4⟩, ⟨.LSR, .ABSX, 7⟩, ⟨.BBR, .ZPREL, 5⟩]

/-- Row 6x of the table of R310. -/
def tableRow6 : List Entry :=
  [⟨.RTS, .STACK, 6⟩, ⟨.ADC, .INDX, 6⟩, ⟨.UNDEF, .IMM, 2⟩, ⟨.UNDEF, .IMP, 1⟩,
   ⟨.STZ, .ZP, 3⟩, ⟨.ADC, .ZP, 3⟩, ⟨.ROR, .ZP, 5⟩, ⟨.RMB, .ZP, 5⟩,
   ⟨.PLA, .STACK, 4⟩, ⟨.ADC, .IMM, 2⟩, ⟨.ROR, .ACC, 2⟩, ⟨.UNDEF, .IMP, 1⟩,
   ⟨.JMP, .IND, 5⟩, ⟨.ADC, .ABS, 4⟩, ⟨.ROR, .ABS, 6⟩, ⟨.BBR, .ZPREL, 5⟩]

/-- Row 7x of the table of R310. -/
def tableRow7 : List Entry :=
  [⟨.BVS, .REL, 2⟩, ⟨.ADC, .INDY, 5⟩, ⟨.ADC, .ZPIND, 5⟩, ⟨.UNDEF, .IMP, 1⟩,
   ⟨.STZ, .ZPX, 4⟩, ⟨.ADC, .ZPX, 4⟩, ⟨.ROR, .ZPX, 6⟩, ⟨.RMB, .ZP, 5⟩,
   ⟨.SEI, .IMP, 2⟩, ⟨.ADC, .ABSY, 4⟩, ⟨.PLY, .STACK, 4⟩, ⟨.UNDEF, .IMP, 1⟩,
   ⟨.JMP, .ABSINDX, 6⟩, ⟨.ADC, .ABSX, 4⟩, ⟨.ROR, .ABSX, 7⟩, ⟨.BBR, .ZPREL, 5⟩]

/-- Row 8x of the table of R310. -/
def tableRow8 : List Entry :=
  [⟨.BRA, .REL, 2⟩, ⟨.STA, .INDX, 6⟩, ⟨.UNDEF, .IMM, 2⟩, ⟨.UNDEF, .IMP, 1⟩,
   ⟨.STY, .ZP, 3⟩, ⟨.STA, .ZP, 3⟩, ⟨.STX, .ZP, 3⟩, ⟨.SMB, .ZP, 5⟩,
   ⟨.DEY, .IMP, 2⟩, ⟨.BIT, .IMM, 2⟩, ⟨.TXA, .IMP, 2⟩, ⟨.UNDEF, .IMP, 1⟩,
   ⟨.STY, .ABS, 4⟩, ⟨.STA, .ABS, 4⟩, ⟨.STX, .ABS, 4⟩, ⟨.BBS, .ZPREL, 5⟩]

/-- Row 9x of the table of R310. -/
def tableRow9 : List Entry :=
  [⟨.BCC, .REL, 2⟩, ⟨.STA, .INDY, 6⟩, ⟨.STA, .ZPIND, 5⟩, ⟨.UNDEF, .IMP, 1⟩,
   ⟨.STY, .ZPX, 4⟩, ⟨.STA, .ZPX, 4⟩, ⟨.STX, .ZPY, 4⟩, ⟨.SMB, .ZP, 5⟩,
   ⟨.TYA, .IMP, 2⟩, ⟨.STA, .ABSY, 5⟩, ⟨.TXS, .IMP, 2⟩, ⟨.UNDEF, .IMP, 1⟩,
   ⟨.STZ, .ABS, 4⟩, ⟨.STA, .ABSX, 5⟩, ⟨.STZ, .ABSX, 5⟩, ⟨.BBS, .ZPREL, 5⟩]

/-- Row Ax of the table of R310. -/
def tableRowA : List Entry :=
  [⟨.LDY, .IMM, 2⟩, ⟨.LDA, .INDX, 6⟩, ⟨.LDX, .IMM, 2⟩, ⟨.UNDEF, .IMP, 1⟩,
   ⟨.LDY, .ZP, 3⟩, ⟨.LDA, .ZP, 3⟩, ⟨.LDX, .ZP, 3⟩, ⟨.SMB, .ZP, 5⟩,
   ⟨.TAY, .IMP, 2⟩, ⟨.LDA, .IMM, 2⟩, ⟨.TAX, .IMP, 2⟩, ⟨.UNDEF, .IMP, 1⟩,
   ⟨.LDY, .ABS, 4⟩, ⟨.LDA, .ABS, 4⟩, ⟨.LDX, .ABS, 4⟩, ⟨.BBS, .ZPREL, 5⟩]

/-- Row Bx of the table of R310. -/
def tableRowB : List Entry :=
  [⟨.BCS, .REL, 2⟩, ⟨.LDA, .INDY, 5⟩, ⟨.LDA, .ZPIND, 5⟩, ⟨.UNDEF, .IMP, 1⟩,
   ⟨.LDY, .ZPX, 4⟩, ⟨.LDA, .ZPX, 4⟩, ⟨.LDX, .ZPY, 4⟩, ⟨.SMB, .ZP, 5⟩,
   ⟨.CLV, .IMP, 2⟩, ⟨.LDA, .ABSY, 4⟩, ⟨.TSX, .IMP, 2⟩, ⟨.UNDEF, .IMP, 1⟩,
   ⟨.LDY, .ABSX, 4⟩, ⟨.LDA, .ABSX, 4⟩, ⟨.LDX, .ABSY, 4⟩, ⟨.BBS, .ZPREL, 5⟩]

/-- Row Cx of the table of R310. -/
def tableRowC : List Entry :=
  [⟨.CPY, .IMM, 2⟩, ⟨.CMP, .INDX, 6⟩, ⟨.UNDEF, .IMM, 2⟩, ⟨.UNDEF, .IMP, 1⟩,
   ⟨.CPY, .ZP, 3⟩, ⟨.CMP, .ZP, 3⟩, ⟨.DEC, .ZP, 5⟩, ⟨.SMB, .ZP, 5⟩,
   ⟨.INY, .IMP, 2⟩, ⟨.CMP, .IMM, 2⟩, ⟨.DEX, .IMP, 2⟩, ⟨.WAI, .IMP, 3⟩,
   ⟨.CPY, .ABS, 4⟩, ⟨.CMP, .ABS, 4⟩, ⟨.DEC, .ABS, 6⟩, ⟨.BBS, .ZPREL, 5⟩]

/-- Row Dx of the table of R310. -/
def tableRowD : List Entry :=
  [⟨.BNE, .REL, 2⟩, ⟨.CMP, .INDY, 5⟩, ⟨.CMP, .ZPIND, 5⟩, ⟨.UNDEF, .IMP, 1⟩,
   ⟨.UNDEF, .ZPX, 4⟩, ⟨.CMP, .ZPX, 4⟩, ⟨.DEC, .ZPX, 6⟩, ⟨.SMB, .ZP, 5⟩,
   ⟨.CLD, .IMP, 2⟩, ⟨.CMP, .ABSY, 4⟩, ⟨.PHX, .STACK, 3⟩, ⟨.STP, .IMP, 3⟩,
   ⟨.UNDEF, .ABS, 4⟩, ⟨.CMP, .ABSX, 4⟩, ⟨.DEC, .ABSX, 7⟩, ⟨.BBS, .ZPREL, 5⟩]

/-- Row Ex of the table of R310. -/
def tableRowE : List Entry :=
  [⟨.CPX, .IMM, 2⟩, ⟨.SBC, .INDX, 6⟩, ⟨.UNDEF, .IMM, 2⟩, ⟨.UNDEF, .IMP, 1⟩,
   ⟨.CPX, .ZP, 3⟩, ⟨.SBC, .ZP, 3⟩, ⟨.INC, .ZP, 5⟩, ⟨.SMB, .ZP, 5⟩,
   ⟨.INX, .IMP, 2⟩, ⟨.SBC, .IMM, 2⟩, ⟨.NOP, .IMP, 2⟩, ⟨.UNDEF, .IMP, 1⟩,
   ⟨.CPX, .ABS, 4⟩, ⟨.SBC, .ABS, 4⟩, ⟨.INC, .ABS, 6⟩, ⟨.BBS, .ZPREL, 5⟩]

/-- Row Fx of the table of R310. -/
def tableRowF : List Entry :=
  [⟨.BEQ, .REL, 2⟩, ⟨.SBC, .INDY, 5⟩, ⟨.SBC, .ZPIND, 5⟩, ⟨.UNDEF, .IMP, 1⟩,
   ⟨.UNDEF, .ZPX, 4⟩, ⟨.SBC, .ZPX, 4⟩, ⟨.INC, .ZPX, 6⟩, ⟨.SMB, .ZP, 5⟩,
   ⟨.SED, .IMP, 2⟩, ⟨.SBC, .ABSY, 4⟩, ⟨.PLX, .STACK, 4⟩, ⟨.UNDEF, .IMP, 1⟩,
   ⟨.UNDEF, .ABS, 4⟩, ⟨.SBC, .ABSX, 4⟩, ⟨.INC, .ABSX, 7⟩, ⟨.BBS, .ZPREL, 5⟩]

/-- The row `opcode[7:4]` of the table. -/
def tableRow (hi : Nat) : List Entry :=
  match hi with
  | 0 => tableRow0
  | 1 => tableRow1
  | 2 => tableRow2
  | 3 => tableRow3
  | 4 => tableRow4
  | 5 => tableRow5
  | 6 => tableRow6
  | 7 => tableRow7
  | 8 => tableRow8
  | 9 => tableRow9
  | 10 => tableRowA
  | 11 => tableRowB
  | 12 => tableRowC
  | 13 => tableRowD
  | 14 => tableRowE
  | _ => tableRowF

/-- `TABLE[op]` (R310): row `opcode[7:4]`, column `opcode[3:0]`. Every row has 16 cells, so the default is never read. -/
def tableEntry (op : Byte) : Entry :=
  (tableRow (op.toNat / 16)).getD (op.toNat % 16) ⟨.UNDEF, .IMP, 1⟩

/-- `PAGE_PENALTY[op]` (70_reset_and_hazards.md R1303): the 24 opcodes that pay the page-crossing cycle. -/
def pagePenalty (op : Byte) : Bool :=
  decide (op ∈ [0x1D#8, 0x19#8, 0x11#8, 0x3D#8, 0x39#8, 0x31#8, 0x5D#8, 0x59#8, 0x51#8, 0x7D#8, 0x79#8, 0x71#8,
    0xBD#8, 0xB9#8, 0xB1#8, 0xDD#8, 0xD9#8, 0xD1#8, 0xFD#8, 0xF9#8, 0xF1#8, 0xBE#8, 0xBC#8, 0x3C#8])

/-! ## Lengths and operand assembly (R300, R301, R304) -/

/-- The operand bytes of a mode (R300, R303). -/
def operandBytes : Mode → Nat
  | .IMP | .ACC | .STACK => 0
  | .IMM | .ZP | .ZPX | .ZPY | .INDX | .INDY | .ZPIND | .REL => 1
  | .ABS | .ABSX | .ABSY | .IND | .ABSINDX | .ZPREL => 2

/-- The length of an instruction from its opcode byte alone (R301). -/
def instrLength (op : Byte) : Nat := 1 + operandBytes (tableEntry op).mode

/-- The operand of a mode from byte 1 and byte 2 of the instruction (R304): a 16-bit operand is `b2:b1`. -/
def assemble (mode : Mode) (b1 b2 : Byte) : Operand :=
  match mode with
  | .IMP => .imp
  | .ACC => .acc
  | .IMM => .imm b1
  | .ZP => .zp b1
  | .ZPX => .zpx b1
  | .ZPY => .zpy b1
  | .ABS => .abs (word b2 b1)
  | .ABSX => .absx (word b2 b1)
  | .ABSY => .absy (word b2 b1)
  | .IND => .ind (word b2 b1)
  | .INDX => .indx b1
  | .INDY => .indy b1
  | .REL => .rel b1
  | .ZPIND => .zpind b1
  | .ABSINDX => .absindx (word b2 b1)
  | .ZPREL => .zprel b1 b2
  | .STACK => .stack

/-- The bit index of RMB, SMB, BBR and BBS: `opcode[6:4]` (R302). -/
def bitIndex (op : Byte) : Nat := op.toNat / 16 % 8

/-- RMBn with its bit index n (R807, R302). -/
def rmbInstr (n : Nat) (zp : Byte) : Instr :=
  match n with
  | 0 => .rmb0 zp
  | 1 => .rmb1 zp
  | 2 => .rmb2 zp
  | 3 => .rmb3 zp
  | 4 => .rmb4 zp
  | 5 => .rmb5 zp
  | 6 => .rmb6 zp
  | _ => .rmb7 zp

/-- SMBn with its bit index n (R808, R302). -/
def smbInstr (n : Nat) (zp : Byte) : Instr :=
  match n with
  | 0 => .smb0 zp
  | 1 => .smb1 zp
  | 2 => .smb2 zp
  | 3 => .smb3 zp
  | 4 => .smb4 zp
  | 5 => .smb5 zp
  | 6 => .smb6 zp
  | _ => .smb7 zp

/-- BBRn with its bit index n (R1019, R302). -/
def bbrInstr (n : Nat) (zp disp : Byte) : Instr :=
  match n with
  | 0 => .bbr0 zp disp
  | 1 => .bbr1 zp disp
  | 2 => .bbr2 zp disp
  | 3 => .bbr3 zp disp
  | 4 => .bbr4 zp disp
  | 5 => .bbr5 zp disp
  | 6 => .bbr6 zp disp
  | _ => .bbr7 zp disp

/-- BBSn with its bit index n (R1020, R302). -/
def bbsInstr (n : Nat) (zp disp : Byte) : Instr :=
  match n with
  | 0 => .bbs0 zp disp
  | 1 => .bbs1 zp disp
  | 2 => .bbs2 zp disp
  | 3 => .bbs3 zp disp
  | 4 => .bbs4 zp disp
  | 5 => .bbs5 zp disp
  | 6 => .bbs6 zp disp
  | _ => .bbs7 zp disp

/-- The instruction of an opcode byte and its operand bytes (R310, R312). A byte the mode does not have is not looked
at. -/
def instrOf (op b1 b2 : Byte) : Instr :=
  let e := tableEntry op
  match e.operation with
  | .LDA => .lda (assemble e.mode b1 b2)
  | .LDX => .ldx (assemble e.mode b1 b2)
  | .LDY => .ldy (assemble e.mode b1 b2)
  | .STA => .sta (assemble e.mode b1 b2)
  | .STX => .stx (assemble e.mode b1 b2)
  | .STY => .sty (assemble e.mode b1 b2)
  | .STZ => .stz (assemble e.mode b1 b2)
  | .TAX => .tax
  | .TAY => .tay
  | .TSX => .tsx
  | .TXA => .txa
  | .TXS => .txs
  | .TYA => .tya
  | .PHA => .pha
  | .PHP => .php
  | .PLA => .pla
  | .PLP => .plp
  | .PHX => .phx
  | .PHY => .phy
  | .PLX => .plx
  | .PLY => .ply
  | .ADC => .adc (assemble e.mode b1 b2)
  | .SBC => .sbc (assemble e.mode b1 b2)
  | .CMP => .cmp (assemble e.mode b1 b2)
  | .CPX => .cpx (assemble e.mode b1 b2)
  | .CPY => .cpy (assemble e.mode b1 b2)
  | .INC => .inc (assemble e.mode b1 b2)
  | .DEC => .dec (assemble e.mode b1 b2)
  | .INX => .inx
  | .INY => .iny
  | .DEX => .dex
  | .DEY => .dey
  | .AND => .and (assemble e.mode b1 b2)
  | .ORA => .ora (assemble e.mode b1 b2)
  | .EOR => .eor (assemble e.mode b1 b2)
  | .BIT => .bit (assemble e.mode b1 b2)
  | .TRB => .trb (assemble e.mode b1 b2)
  | .TSB => .tsb (assemble e.mode b1 b2)
  | .RMB => rmbInstr (bitIndex op) b1
  | .SMB => smbInstr (bitIndex op) b1
  | .ASL => .asl (assemble e.mode b1 b2)
  | .LSR => .lsr (assemble e.mode b1 b2)
  | .ROL => .rol (assemble e.mode b1 b2)
  | .ROR => .ror (assemble e.mode b1 b2)
  | .BPL => .bpl b1
  | .BMI => .bmi b1
  | .BVC => .bvc b1
  | .BVS => .bvs b1
  | .BCC => .bcc b1
  | .BCS => .bcs b1
  | .BNE => .bne b1
  | .BEQ => .beq b1
  | .BRA => .bra b1
  | .BBR => bbrInstr (bitIndex op) b1 b2
  | .BBS => bbsInstr (bitIndex op) b1 b2
  | .JMP => .jmp (assemble e.mode b1 b2)
  | .JSR => .jsr (word b2 b1)
  | .RTS => .rts
  | .CLC => .clc
  | .CLD => .cld
  | .CLI => .cli
  | .CLV => .clv
  | .SEC => .sec
  | .SED => .sed
  | .SEI => .sei
  | .NOP => .nop
  | .UNDEF => .undef op (assemble e.mode b1 b2)
  | .BRK => .brk
  | .RTI => .rti
  | .WAI => .wai
  | .STP => .stp

/-! ## The decoder on bytes -/

/-- Why bytes are not an instruction: every opcode byte decodes (R312), so only bytes that end early are refused. -/
inductive DecodeError where
  /-- There is no opcode byte. -/
  | noOpcode
  /-- The operand bytes of the opcode `op` are not all there. -/
  | truncated (op : Byte)
  deriving DecidableEq, Repr

/-- Reads one instruction from the bytes at the lowest address first and answers it with the bytes that follow it. -/
def decode : List Byte → Except DecodeError (Instr × List Byte)
  | [] => .error .noOpcode
  | op :: rest =>
    match operandBytes (tableEntry op).mode, rest with
    | 0, _ => .ok (instrOf op 0 0, rest)
    | 1, b1 :: rest' => .ok (instrOf op b1 0, rest')
    | _ + 2, b1 :: b2 :: rest' => .ok (instrOf op b1 b2, rest')
    | _, _ => .error (.truncated op)

/-- The bytes of the number `w`, bit 0 the least significant bit of the first byte: three bytes, the longest
instruction. -/
def wordBytes (nbits w : Nat) : List Byte :=
  let v := w % 2 ^ nbits
  [BitVec.ofNat 8 v, BitVec.ofNat 8 (v / 256), BitVec.ofNat 8 (v / 65536)]

/-- The instruction the decoder reads from an instruction whose bits are `w`, numbered as spec/opcode_table.json numbers
them, every bit above `nbits` 0. -/
def decodeTableWord (nbits w : Nat) : Option Instr :=
  match decode (wordBytes nbits w) with
  | .ok (i, _) => some i
  | .error _ => none

/-! ## The encoder, from the rule of each instruction -/

/-- The opcode bytes of LDA, by mode (R501, "Encoding"). -/
def ldaOpcode : Mode → Option Byte
  | .IMM => some 0xA9#8
  | .ZP => some 0xA5#8
  | .ZPX => some 0xB5#8
  | .ABS => some 0xAD#8
  | .ABSX => some 0xBD#8
  | .ABSY => some 0xB9#8
  | .INDX => some 0xA1#8
  | .INDY => some 0xB1#8
  | .ZPIND => some 0xB2#8
  | _ => none

/-- The opcode bytes of LDX, by mode (R502, "Encoding"). -/
def ldxOpcode : Mode → Option Byte
  | .IMM => some 0xA2#8
  | .ZP => some 0xA6#8
  | .ZPY => some 0xB6#8
  | .ABS => some 0xAE#8
  | .ABSY => some 0xBE#8
  | _ => none

/-- The opcode bytes of LDY, by mode (R503, "Encoding"). -/
def ldyOpcode : Mode → Option Byte
  | .IMM => some 0xA0#8
  | .ZP => some 0xA4#8
  | .ZPX => some 0xB4#8
  | .ABS => some 0xAC#8
  | .ABSX => some 0xBC#8
  | _ => none

/-- The opcode bytes of STA, by mode (R504, "Encoding"). -/
def staOpcode : Mode → Option Byte
  | .ZP => some 0x85#8
  | .ZPX => some 0x95#8
  | .ABS => some 0x8D#8
  | .ABSX => some 0x9D#8
  | .ABSY => some 0x99#8
  | .INDX => some 0x81#8
  | .INDY => some 0x91#8
  | .ZPIND => some 0x92#8
  | _ => none

/-- The opcode bytes of STX, by mode (R505, "Encoding"). -/
def stxOpcode : Mode → Option Byte
  | .ZP => some 0x86#8
  | .ZPY => some 0x96#8
  | .ABS => some 0x8E#8
  | _ => none

/-- The opcode bytes of STY, by mode (R506, "Encoding"). -/
def styOpcode : Mode → Option Byte
  | .ZP => some 0x84#8
  | .ZPX => some 0x94#8
  | .ABS => some 0x8C#8
  | _ => none

/-- The opcode bytes of STZ, by mode (R507, "Encoding"). -/
def stzOpcode : Mode → Option Byte
  | .ZP => some 0x64#8
  | .ZPX => some 0x74#8
  | .ABS => some 0x9C#8
  | .ABSX => some 0x9E#8
  | _ => none

/-- The opcode bytes of ADC, by mode (R710, "Encoding"). -/
def adcOpcode : Mode → Option Byte
  | .IMM => some 0x69#8
  | .ZP => some 0x65#8
  | .ZPX => some 0x75#8
  | .ABS => some 0x6D#8
  | .ABSX => some 0x7D#8
  | .ABSY => some 0x79#8
  | .INDX => some 0x61#8
  | .INDY => some 0x71#8
  | .ZPIND => some 0x72#8
  | _ => none

/-- The opcode bytes of SBC, by mode (R711, "Encoding"). -/
def sbcOpcode : Mode → Option Byte
  | .IMM => some 0xE9#8
  | .ZP => some 0xE5#8
  | .ZPX => some 0xF5#8
  | .ABS => some 0xED#8
  | .ABSX => some 0xFD#8
  | .ABSY => some 0xF9#8
  | .INDX => some 0xE1#8
  | .INDY => some 0xF1#8
  | .ZPIND => some 0xF2#8
  | _ => none

/-- The opcode bytes of CMP, by mode (R712, "Encoding"). -/
def cmpOpcode : Mode → Option Byte
  | .IMM => some 0xC9#8
  | .ZP => some 0xC5#8
  | .ZPX => some 0xD5#8
  | .ABS => some 0xCD#8
  | .ABSX => some 0xDD#8
  | .ABSY => some 0xD9#8
  | .INDX => some 0xC1#8
  | .INDY => some 0xD1#8
  | .ZPIND => some 0xD2#8
  | _ => none

/-- The opcode bytes of CPX, by mode (R713, "Encoding"). -/
def cpxOpcode : Mode → Option Byte
  | .IMM => some 0xE0#8
  | .ZP => some 0xE4#8
  | .ABS => some 0xEC#8
  | _ => none

/-- The opcode bytes of CPY, by mode (R714, "Encoding"). -/
def cpyOpcode : Mode → Option Byte
  | .IMM => some 0xC0#8
  | .ZP => some 0xC4#8
  | .ABS => some 0xCC#8
  | _ => none

/-- The opcode bytes of INC, by mode (R715, "Encoding"). -/
def incOpcode : Mode → Option Byte
  | .ACC => some 0x1A#8
  | .ZP => some 0xE6#8
  | .ZPX => some 0xF6#8
  | .ABS => some 0xEE#8
  | .ABSX => some 0xFE#8
  | _ => none

/-- The opcode bytes of DEC, by mode (R716, "Encoding"). -/
def decOpcode : Mode → Option Byte
  | .ACC => some 0x3A#8
  | .ZP => some 0xC6#8
  | .ZPX => some 0xD6#8
  | .ABS => some 0xCE#8
  | .ABSX => some 0xDE#8
  | _ => none

/-- The opcode bytes of AND, by mode (R801, "Encoding"). -/
def andOpcode : Mode → Option Byte
  | .IMM => some 0x29#8
  | .ZP => some 0x25#8
  | .ZPX => some 0x35#8
  | .ABS => some 0x2D#8
  | .ABSX => some 0x3D#8
  | .ABSY => some 0x39#8
  | .INDX => some 0x21#8
  | .INDY => some 0x31#8
  | .ZPIND => some 0x32#8
  | _ => none

/-- The opcode bytes of ORA, by mode (R802, "Encoding"). -/
def oraOpcode : Mode → Option Byte
  | .IMM => some 0x09#8
  | .ZP => some 0x05#8
  | .ZPX => some 0x15#8
  | .ABS => some 0x0D#8
  | .ABSX => some 0x1D#8
  | .ABSY => some 0x19#8
  | .INDX => some 0x01#8
  | .INDY => some 0x11#8
  | .ZPIND => some 0x12#8
  | _ => none

/-- The opcode bytes of EOR, by mode (R803, "Encoding"). -/
def eorOpcode : Mode → Option Byte
  | .IMM => some 0x49#8
  | .ZP => some 0x45#8
  | .ZPX => some 0x55#8
  | .ABS => some 0x4D#8
  | .ABSX => some 0x5D#8
  | .ABSY => some 0x59#8
  | .INDX => some 0x41#8
  | .INDY => some 0x51#8
  | .ZPIND => some 0x52#8
  | _ => none

/-- The opcode bytes of BIT, by mode (R804, "Encoding"). -/
def bitOpcode : Mode → Option Byte
  | .IMM => some 0x89#8
  | .ZP => some 0x24#8
  | .ZPX => some 0x34#8
  | .ABS => some 0x2C#8
  | .ABSX => some 0x3C#8
  | _ => none

/-- The opcode bytes of TRB, by mode (R805, "Encoding"). -/
def trbOpcode : Mode → Option Byte
  | .ZP => some 0x14#8
  | .ABS => some 0x1C#8
  | _ => none

/-- The opcode bytes of TSB, by mode (R806, "Encoding"). -/
def tsbOpcode : Mode → Option Byte
  | .ZP => some 0x04#8
  | .ABS => some 0x0C#8
  | _ => none

/-- The opcode bytes of ASL, by mode (R901, "Encoding"). -/
def aslOpcode : Mode → Option Byte
  | .ACC => some 0x0A#8
  | .ZP => some 0x06#8
  | .ZPX => some 0x16#8
  | .ABS => some 0x0E#8
  | .ABSX => some 0x1E#8
  | _ => none

/-- The opcode bytes of LSR, by mode (R902, "Encoding"). -/
def lsrOpcode : Mode → Option Byte
  | .ACC => some 0x4A#8
  | .ZP => some 0x46#8
  | .ZPX => some 0x56#8
  | .ABS => some 0x4E#8
  | .ABSX => some 0x5E#8
  | _ => none

/-- The opcode bytes of ROL, by mode (R903, "Encoding"). -/
def rolOpcode : Mode → Option Byte
  | .ACC => some 0x2A#8
  | .ZP => some 0x26#8
  | .ZPX => some 0x36#8
  | .ABS => some 0x2E#8
  | .ABSX => some 0x3E#8
  | _ => none

/-- The opcode bytes of ROR, by mode (R904, "Encoding"). -/
def rorOpcode : Mode → Option Byte
  | .ACC => some 0x6A#8
  | .ZP => some 0x66#8
  | .ZPX => some 0x76#8
  | .ABS => some 0x6E#8
  | .ABSX => some 0x7E#8
  | _ => none

/-- The opcode bytes of JMP, by mode (R1021, "Encoding"). -/
def jmpOpcode : Mode → Option Byte
  | .ABS => some 0x4C#8
  | .IND => some 0x6C#8
  | .ABSINDX => some 0x7C#8
  | _ => none

/-- The opcode byte of an instruction, `none` for a mode its rule does not list. -/
def Instr.opcode? : Instr → Option Byte
  | .lda o => ldaOpcode o.mode
  | .ldx o => ldxOpcode o.mode
  | .ldy o => ldyOpcode o.mode
  | .sta o => staOpcode o.mode
  | .stx o => stxOpcode o.mode
  | .sty o => styOpcode o.mode
  | .stz o => stzOpcode o.mode
  | .tax => some 0xAA#8
  | .tay => some 0xA8#8
  | .tsx => some 0xBA#8
  | .txa => some 0x8A#8
  | .txs => some 0x9A#8
  | .tya => some 0x98#8
  | .pha => some 0x48#8
  | .php => some 0x08#8
  | .pla => some 0x68#8
  | .plp => some 0x28#8
  | .phx => some 0xDA#8
  | .phy => some 0x5A#8
  | .plx => some 0xFA#8
  | .ply => some 0x7A#8
  | .adc o => adcOpcode o.mode
  | .sbc o => sbcOpcode o.mode
  | .cmp o => cmpOpcode o.mode
  | .cpx o => cpxOpcode o.mode
  | .cpy o => cpyOpcode o.mode
  | .inc o => incOpcode o.mode
  | .dec o => decOpcode o.mode
  | .inx => some 0xE8#8
  | .iny => some 0xC8#8
  | .dex => some 0xCA#8
  | .dey => some 0x88#8
  | .and o => andOpcode o.mode
  | .ora o => oraOpcode o.mode
  | .eor o => eorOpcode o.mode
  | .bit o => bitOpcode o.mode
  | .trb o => trbOpcode o.mode
  | .tsb o => tsbOpcode o.mode
  | .rmb0 _ => some 0x07#8
  | .rmb1 _ => some 0x17#8
  | .rmb2 _ => some 0x27#8
  | .rmb3 _ => some 0x37#8
  | .rmb4 _ => some 0x47#8
  | .rmb5 _ => some 0x57#8
  | .rmb6 _ => some 0x67#8
  | .rmb7 _ => some 0x77#8
  | .smb0 _ => some 0x87#8
  | .smb1 _ => some 0x97#8
  | .smb2 _ => some 0xA7#8
  | .smb3 _ => some 0xB7#8
  | .smb4 _ => some 0xC7#8
  | .smb5 _ => some 0xD7#8
  | .smb6 _ => some 0xE7#8
  | .smb7 _ => some 0xF7#8
  | .asl o => aslOpcode o.mode
  | .lsr o => lsrOpcode o.mode
  | .rol o => rolOpcode o.mode
  | .ror o => rorOpcode o.mode
  | .bpl _ => some 0x10#8
  | .bmi _ => some 0x30#8
  | .bvc _ => some 0x50#8
  | .bvs _ => some 0x70#8
  | .bcc _ => some 0x90#8
  | .bcs _ => some 0xB0#8
  | .bne _ => some 0xD0#8
  | .beq _ => some 0xF0#8
  | .bra _ => some 0x80#8
  | .bbr0 _ _ => some 0x0F#8
  | .bbr1 _ _ => some 0x1F#8
  | .bbr2 _ _ => some 0x2F#8
  | .bbr3 _ _ => some 0x3F#8
  | .bbr4 _ _ => some 0x4F#8
  | .bbr5 _ _ => some 0x5F#8
  | .bbr6 _ _ => some 0x6F#8
  | .bbr7 _ _ => some 0x7F#8
  | .bbs0 _ _ => some 0x8F#8
  | .bbs1 _ _ => some 0x9F#8
  | .bbs2 _ _ => some 0xAF#8
  | .bbs3 _ _ => some 0xBF#8
  | .bbs4 _ _ => some 0xCF#8
  | .bbs5 _ _ => some 0xDF#8
  | .bbs6 _ _ => some 0xEF#8
  | .bbs7 _ _ => some 0xFF#8
  | .jmp o => jmpOpcode o.mode
  | .jsr _ => some 0x20#8
  | .rts => some 0x60#8
  | .clc => some 0x18#8
  | .cld => some 0xD8#8
  | .cli => some 0x58#8
  | .clv => some 0xB8#8
  | .sec => some 0x38#8
  | .sed => some 0xF8#8
  | .sei => some 0x78#8
  | .nop => some 0xEA#8
  | .undef op o => if undefMode op = some o.mode then some op else none
  | .brk => some 0x00#8
  | .rti => some 0x40#8
  | .wai => some 0xCB#8
  | .stp => some 0xDB#8

/-- The operand bytes of an operand, byte 1 first (R300, R304). -/
def Operand.bytes : Operand → List Byte
  | .imp | .acc | .stack => []
  | .imm b | .zp b | .zpx b | .zpy b | .indx b | .indy b | .zpind b | .rel b => [b]
  | .abs w | .absx w | .absy w | .ind w | .absindx w => [lo w, hi w]
  | .zprel b d => [b, d]

/-- The bytes of an instruction, the first at the lowest address; none for an ill-formed term. -/
def encode (i : Instr) : List Byte :=
  match i.opcode? with
  | some op => op :: i.operand.bytes
  | none => []

end Sys2Proof
end

