-- ==== Sys2Proof/Config.lean ====
section
/-!
DEFINITION. The parameters of the core (spec 00_scope.md R9), the constants the source fixes, and the two free values.
A parameter is fixed when the core is constructed (R3, R135); it is carried in the state as plain data so that a
statement about every state is a statement about every value of it.
-/

namespace Sys2Proof

/-- `DECIMAL_NZ` (R9, R705): how ADC and SBC set N and Z in decimal mode. -/
inductive DecimalNZ where
  /-- N and Z from the corrected result (the default). -/
  | final
  /-- N from the intermediate (ADC) or the binary result (SBC), Z from the binary result. -/
  | nmos
  deriving DecidableEq, Repr

/-- What a RAM or ROM byte holds that nothing has loaded or written (R210, 92_eei_decisions.md D30, log entry 2). -/
inductive RamInit where
  /-- Any value, fixed for each address until its first write: `Config.ramDraw` of the address. -/
  | draw
  /-- The byte `b` at every address. -/
  | fill (b : Byte)
  deriving DecidableEq, Repr

/-- The launch parameters of R9 that a configuration may set. -/
structure Params where
  /-- `ZERO_PAGE_BUG`: true for the NMOS variant, false for the CMOS variant (R3). -/
  zeroPageBug : Bool
  /-- `JMP_IND_PAGE_WRAP` (R411, D6): `none` is the default, "equal to `ZERO_PAGE_BUG`". -/
  jmpIndPageWrap : Option Bool
  /-- `DECIMAL_NZ` (R705, D18). -/
  decimalNZ : DecimalNZ
  /-- `INTERRUPT_CYCLES` (R1212, D16). -/
  interruptCycles : Nat
  /-- The opcodes whose `CYCLES[op]` this configuration sets to another value than the table of R310 (D2). -/
  cycles : List (Byte × Nat)
  /-- The opcodes whose `PAGE_PENALTY[op]` this configuration sets to another value than the list of R1303 (D3). -/
  pagePenalties : List (Byte × Bool)
  /-- What a byte nothing has loaded or written reads as (R210, D30). -/
  ramInit : RamInit
  deriving DecidableEq, Repr

namespace Config

/-- `RESET_CYCLES` (R9, R1310): "an 8-cycle startup cost". -/
def resetCycles : Nat := 8

/-- The default parameters (R9): CMOS pointer wrap as the vectors of 95_test_vectors.md take it (log entry 1),
`DECIMAL_NZ` = FINAL, `INTERRUPT_CYCLES` = 7, the table's cycle counts and penalties, unloaded bytes 0x00 (log entry 2). -/
def defaults : Params where
  zeroPageBug := false
  jmpIndPageWrap := none
  decimalNZ := .final
  interruptCycles := 7
  cycles := []
  pagePenalties := []
  ramInit := .fill 0x00#8

/-- FREE VALUE (log entry 2): the byte a RAM address holds before its first write when the launch configuration leaves
it a draw (R210: "holds an unspecified value"). -/
opaque ramDraw : Nat → Byte

/-- FREE VALUE (log entry 3): the answer of an external device to the n-th read made of one (R213: "an oracle
answer"). -/
opaque deviceAnswer : Nat → Byte

end Config
end Sys2Proof
end

