-- ==== Sys2Proof/Machine/Flags.lean ====
section
/-!
DEFINITION. The status register P as a byte with named bits (spec 10_state.md R110 to R115) and every flag computation
of the ALU (00_scope.md R13, 43_arithmetic.md R701 to R707, 44_logic_bit.md, 45_shift_rotate.md). An operation that
writes flags takes P and answers the new P, so that a flag it does not name is unchanged (R114).
-/

namespace Sys2Proof

/-! ## The bits of P (R110) -/

/-- `C = 0x01` -/
def maskC : Byte := 0x01
/-- `Z = 0x02` -/
def maskZ : Byte := 0x02
/-- `I = 0x04` -/
def maskI : Byte := 0x04
/-- `D = 0x08` -/
def maskD : Byte := 0x08
/-- `B = 0x10` -/
def maskB : Byte := 0x10
/-- `U = 0x20` -/
def maskU : Byte := 0x20
/-- `V = 0x40` -/
def maskV : Byte := 0x40
/-- `N = 0x80` -/
def maskN : Byte := 0x80

/-- Carry, bit 0. -/
def flagC (p : Byte) : Bool := p.getLsbD 0
/-- Zero, bit 1. -/
def flagZ (p : Byte) : Bool := p.getLsbD 1
/-- Interrupt disable, bit 2. -/
def flagI (p : Byte) : Bool := p.getLsbD 2
/-- Decimal mode, bit 3. -/
def flagD (p : Byte) : Bool := p.getLsbD 3
/-- Break, bit 4. -/
def flagB (p : Byte) : Bool := p.getLsbD 4
/-- Unused, bit 5. -/
def flagU (p : Byte) : Bool := p.getLsbD 5
/-- Overflow, bit 6. -/
def flagV (p : Byte) : Bool := p.getLsbD 6
/-- Negative, bit 7. -/
def flagN (p : Byte) : Bool := p.getLsbD 7

/-- P with the bits of a mask set or cleared; the others are unchanged (R114). -/
def putFlag (mask : Byte) (v : Bool) (p : Byte) : Byte :=
  if v then p ||| mask else p &&& ~~~mask

/-- `P.C <- v` -/
def setC (v : Bool) (p : Byte) : Byte := putFlag maskC v p
/-- `P.Z <- v` -/
def setZ (v : Bool) (p : Byte) : Byte := putFlag maskZ v p
/-- `P.I <- v` -/
def setI (v : Bool) (p : Byte) : Byte := putFlag maskI v p
/-- `P.D <- v` -/
def setD (v : Bool) (p : Byte) : Byte := putFlag maskD v p
/-- `P.V <- v` -/
def setV (v : Bool) (p : Byte) : Byte := putFlag maskV v p
/-- `P.N <- v` -/
def setN (v : Bool) (p : Byte) : Byte := putFlag maskN v p

/-- `setNZ(v)` (00_scope.md R13): `P.N <- v[7]; P.Z <- (v == 0)`. -/
def setNZ (v : Byte) (p : Byte) : Byte := setZ (decide (v = 0)) (setN (v.getLsbD 7) p)

/-- `image_sw = P | B | U` (R115): pushed by PHP and BRK. -/
def imageSw (p : Byte) : Byte := p ||| maskB ||| maskU

/-- `image_hw = (P | U) & ~B` (R115): pushed by IRQ and NMI entry. -/
def imageHw (p : Byte) : Byte := (p ||| maskU) &&& ~~~maskB

/-- P loaded from a byte of the stack: `U` "is forced set whenever P is loaded from the stack" (R111). -/
def loadedP (popped : Byte) : Byte := popped ||| maskU

/-- A flag as a number (R10: "A Boolean is 0 or 1 when used as a number"). -/
def carryIn (c : Bool) : Nat := if c then 1 else 0

/-! ## Binary addition and subtraction (43_arithmetic.md R701, R702) -/

/-- `adc_bin(a, m, P.C)` (R701): the result and the new P. -/
def adcBin (a m p : Byte) : Byte × Byte :=
  let s := a.toNat + m.toNat + carryIn (flagC p)
  let r := u8 s
  let v := decide (~~~(a ^^^ m) &&& (a ^^^ r) &&& 0x80#8 ≠ 0)
  (r, setNZ r (setC (decide (0xFF < s)) (setV v p)))

/-- `sbc_bin(a, m, P.C)` (R702): subtraction with borrow, carry 1 for no borrow. -/
def sbcBin (a m p : Byte) : Byte × Byte :=
  let s := a.toNat + (m ^^^ 0xFF#8).toNat + carryIn (flagC p)
  let r := u8 s
  let v := decide ((a ^^^ m) &&& (a ^^^ r) &&& 0x80#8 ≠ 0)
  (r, setNZ r (setV v (setC (decide (0xFF < s)) p)))

/-! ## Decimal addition and subtraction (R703 to R705) -/

/-- `decimal_nz(r, tn, bin)` (R705). `tn` is the intermediate of ADC; SBC has none. -/
def decimalNz (mode : DecimalNZ) (r : Byte) (tn : Option Byte) (bin : Byte) (p : Byte) : Byte :=
  match mode with
  | .final => setNZ r p
  | .nmos => setZ (decide (bin = 0)) (setN ((tn.getD bin).getLsbD 7) p)

/-- `adc_dec(a, m, P.C)` (R703). -/
def adcDec (mode : DecimalNZ) (a m p : Byte) : Byte × Byte :=
  let c := carryIn (flagC p)
  let al₀ := a.toNat % 16 + m.toNat % 16 + c
  let al := if 0x0A ≤ al₀ then (al₀ + 0x06) % 16 + 0x10 else al₀
  let t := (a &&& 0xF0#8).toNat + (m &&& 0xF0#8).toNat + al
  let sv : Int := (a &&& 0xF0#8).toInt + (m &&& 0xF0#8).toInt + al
  let t' := if 0xA0 ≤ t then t + 0x60 else t
  let r := u8 t'
  let p' := setC (decide (0x100 ≤ t')) (setV (decide (sv < -128 ∨ 127 < sv)) p)
  (r, decimalNz mode r (some (u8 t)) (u8 (a.toNat + m.toNat + c)) p')

/-- `sbc_dec(a, m, P.C)` (R704): C and V as binary subtraction. The `& 0x0F` of a negative number is its residue
modulo 16 (log entry 9). -/
def sbcDec (mode : DecimalNZ) (a m p : Byte) : Byte × Byte :=
  let c := carryIn (flagC p)
  let s := a.toNat + (m ^^^ 0xFF#8).toNat + c
  let v := decide ((a ^^^ m) &&& (a ^^^ u8 s) &&& 0x80#8 ≠ 0)
  let al₀ : Int := ((a.toNat % 16 : Nat) : Int) - ((m.toNat % 16 : Nat) : Int) + c - 1
  let al : Int := if al₀ < 0 then (al₀ - 0x06) % 16 - 0x10 else al₀
  let t : Int := ((a &&& 0xF0#8).toNat : Int) - ((m &&& 0xF0#8).toNat : Int) + al
  let t' : Int := if t < 0 then t - 0x60 else t
  let r := u8i t'
  (r, decimalNz mode r none (u8 s) (setV v (setC (decide (0xFF < s)) p)))

/-- ADC on A and the operand (R710): decimal when `P.D` is set. -/
def adcAlu (mode : DecimalNZ) (a m p : Byte) : Byte × Byte :=
  if flagD p then adcDec mode a m p else adcBin a m p

/-- SBC on A and the operand (R711): decimal when `P.D` is set. -/
def sbcAlu (mode : DecimalNZ) (a m p : Byte) : Byte × Byte :=
  if flagD p then sbcDec mode a m p else sbcBin a m p

/-! ## Compare, bit test, shifts (R707, R804, R901 to R904) -/

/-- `cmp(r, m)` (R707): C for unsigned `r ≥ m`, N and Z of the wrapped difference. -/
def cmpFlags (r m p : Byte) : Byte := setNZ (r - m) (setC (decide (m.toNat ≤ r.toNat)) p)

/-- The flags of BIT (R804): Z from `A & m`; N and V from bits 7 and 6 of `m`, unless the mode is IMM. -/
def bitFlags (immediate : Bool) (a m p : Byte) : Byte :=
  let p' := setZ (decide (a &&& m = 0)) p
  if immediate then p' else setV (m.getLsbD 6) (setN (m.getLsbD 7) p')

/-- ASL (R901): the result, and the bit that leaves to C. -/
def aslAlu (m : Byte) : Byte × Bool := (m <<< 1, m.getLsbD 7)

/-- LSR (R902). -/
def lsrAlu (m : Byte) : Byte × Bool := (m >>> 1, m.getLsbD 0)

/-- ROL (R903): the old carry `c0` enters bit 0. -/
def rolAlu (c0 : Bool) (m : Byte) : Byte × Bool := ((m <<< 1) ||| (if c0 then 0x01#8 else 0), m.getLsbD 7)

/-- ROR (R904): the old carry `c0` enters bit 7. -/
def rorAlu (c0 : Bool) (m : Byte) : Byte × Bool := ((m >>> 1) ||| (if c0 then 0x80#8 else 0), m.getLsbD 0)

/-- `1 << n` for a bit index (R807, R808). -/
def bitMask (n : Nat) : Byte := 1#8 <<< n

end Sys2Proof
end

