-- ==== Sys2Proof/Machine/State.lean ====
section
/-!
DEFINITION. The state of the machine as plain data (spec 10_state.md, 20_memory.md R201 to R203, R210, R211,
60_exceptions.md R1230), the faults and refusals a step can end in, and the state after reset.
-/

namespace Sys2Proof.Machine

/-- What a device is (20_memory.md R210, R211, R213). -/
inductive DeviceKind where
  /-- The reference RAM. -/
  | ram
  /-- The reference ROM, a read-only device. -/
  | rom
  /-- Any other device: its answers are free values (log entry 3). A read-only one fails every write (R201). -/
  | external (readOnly : Bool)
  deriving DecidableEq, Repr

/-- A device bound over `[base, base + size)` (20_memory.md R201, R202). -/
structure Device where
  base : Nat
  size : Nat
  /-- Whether the device receives the raw address or the address less its base (R206). -/
  absoluteAddress : Bool
  kind : DeviceKind
  deriving DecidableEq, Repr

/-- One access an external device has received: the device's base, the index it was given and, for a write, the byte. -/
structure DeviceAccess where
  base : Nat
  index : Nat
  written : Option Byte
  deriving DecidableEq, Repr

/-- One record of `diag` (10_state.md R133): (UnsupportedOpcode, opcode byte, address). -/
inductive DiagRecord where
  | unsupportedOpcode (opcode : Byte) (addr : Word)
  deriving DecidableEq, Repr

/-- Where the machine stands in its life. -/
inductive Phase where
  /-- Constructed, no `reset()` yet: the setup calls are made here (10_state.md R141, 70_reset_and_hazards.md R1312). -/
  | constructed
  /-- After a `reset()` that completed. -/
  | running
  /-- After a fault and before the next `reset()` (60_exceptions.md R1230). -/
  | faulted
  /-- A registration ended in ConfigurationError: there is no run on this bus (20_memory.md R202). -/
  | notOperational
  deriving DecidableEq, Repr

/-- One call of the host (00_scope.md R5, 70_reset_and_hazards.md R1312). -/
inductive HostCall where
  /-- `reset()` -/
  | reset
  /-- `clock()` -/
  | clock
  /-- `irq()` of the core -/
  | irq
  /-- `nmi()` of the core -/
  | nmi
  /-- `irq()` of the bus, which is where a device's `irq()` goes (60_exceptions.md R1214) -/
  | busIrq
  /-- `nmi()` of the bus, which is where a device's `nmi()` goes (R1214) -/
  | busNmi
  /-- `register(device, base)` of the bus (20_memory.md R202) -/
  | register (device : Device)
  /-- load a byte stream at an offset into the backing store of the device registered `n`-th, from 0 (R212) -/
  | load (n : Nat) (offset : Nat) (bytes : List Byte)
  /-- attach the core to the bus (R208, R1312) -/
  | attach
  /-- `list_commands(n)` (30_encoding.md R340): starts a listing -/
  | listCommands (n : Int)
  /-- the next pair of the listing started `k`-th, from 0 (R340: "lazy") -/
  | listNext (k : Nat)
  /-- the listing started `k`-th begins again (R340: "restartable") -/
  | listRestart (k : Nat)
  deriving DecidableEq, Repr

/-- One sequence of `list_commands` (30_encoding.md R340) as far as the host has read it. -/
structure Listing where
  /-- "the value of PC when the sequence is started", where each restart begins again -/
  start : Word
  /-- how many pairs it has; `none` when unbounded -/
  limit : Option Nat
  /-- the address of the next pair -/
  next : Word
  /-- the pairs given since the start or the last restart, in order -/
  pairs : List (Word × List Char)
  /-- the address of the AddressError that has ended it -/
  error : Option Word
  deriving DecidableEq, Repr

/-- The bytes of the RAM and ROM devices that differ from what an unlisted address reads as, the address strictly rising
(Machine/Memory.lean). The key is the bus address. -/
abbrev Memory := List Host.Cell

/-- The state of the machine. Names are the manual's. -/
structure State where
  /-- Accumulator (10_state.md R101). -/
  A : Byte
  /-- Index register X (R102). -/
  X : Byte
  /-- Index register Y (R103). -/
  Y : Byte
  /-- Stack pointer (R104). -/
  S : Byte
  /-- Status register, bits N V U B D I Z C from 7 to 0 (R110). -/
  P : Byte
  /-- Program counter (R105). -/
  PC : Word
  /-- Cycles to count down before the next instruction (R130). -/
  countdown : Nat
  /-- WAI has been executed and no interrupt or reset has come since (R131). -/
  waiting : Bool
  /-- STP has been executed and no reset has come since (R132). -/
  stopped : Bool
  /-- The diagnostic records of undefined opcodes, oldest first (R133). -/
  diag : List DiagRecord
  /-- Which host calls are accepted (R141, R1230, R202). -/
  phase : Phase
  /-- The launch parameters (00_scope.md R9), constant after construction (R135). -/
  params : Params
  /-- The bus's range table in order of registration (20_memory.md R202, R203). -/
  devices : List Device
  /-- Whether the core is attached to the bus (R208, R1214). -/
  attached : Bool
  /-- The contents of the RAM and ROM devices (R210, R211). -/
  mem : Memory
  /-- The listings the host has started, in order (30_encoding.md R340); the core never reads them. -/
  listings : List Listing
  /-- MODEL'S OWN (log entry 6): the calls the host makes before its next `clock()`, in order. -/
  hostCalls : List HostCall
  /-- MODEL'S OWN (log entry 3): how many answers external devices have given. -/
  draws : Nat
  /-- MODEL'S OWN (log entry 3): the accesses external devices have received, oldest first. -/
  deviceLog : List DeviceAccess
  deriving DecidableEq, Repr

/-- Why a step stops with a fault. Each carries the state the fault leaves: every effect before the faulting access
stands (60_exceptions.md R1230). -/
inductive Fault where
  /-- Raised by a bus access to an address no device owns (20_memory.md R204, R205). Safe: it is the spec's own error. -/
  | addressError (addr : Word) (left : State)
  /-- Raised by a bus write to a read-only device (R205, R211). Safe: it is the spec's own error. -/
  | writeProtectionError (addr : Word) (left : State)
  /-- Raised by a registration whose range overlaps a registered one (R202). Safe: it is the spec's own error. -/
  | configurationError (device : Device) (left : State)
  deriving DecidableEq, Repr

/-- Why a step is refused: the model gives the call no meaning. -/
inductive Refusal where
  /-- Raised by exec's arm of an instruction that has no meaning yet. Safe. -/
  | notModelled (mnemonic : String)
  /-- Raised by exec on a term that is no instruction (`Instr.wf` is false); decoding never gives one. Safe. -/
  | illFormed
  /-- Raised by `clock()`, `irq()`, `nmi()` before the first `reset()` (10_state.md R141: "refused"), and by the listing
  calls then (log entry 18). Safe. -/
  | callBeforeReset
  /-- Raised by a call other than `reset()` after a fault (60_exceptions.md R1230 and 93_implementation_defined.md U6:
  "refused"). Safe. -/
  | callAfterFault
  /-- Raised by every call after a ConfigurationError (20_memory.md R202: "no run from it (refused)"). Safe. -/
  | busNotOperational
  /-- Raised by a setup call after the first `reset()` (R203: "registration is a setup step before `reset()`"). Safe. -/
  | setupAfterReset
  /-- Raised by registering a device of size 0 or one that ends past 0xFFFF (R203: "refused"). Safe. -/
  | badDevice
  /-- Raised by a program load that names no RAM or ROM device or does not fit in it (log entry 7). Safe. -/
  | badLoad
  /-- Raised by reading or restarting a listing that has not been started: the host has no such sequence. Safe. -/
  | badListing
  deriving DecidableEq, Repr

/-- RAM over the whole address space (95_test_vectors.md section 2; log entry 5). -/
def wholeRam : Device where
  base := 0
  size := 0x10000
  absoluteAddress := false
  kind := .ram

/-- The core after construction and before the first `reset()` (10_state.md R141): no device registered, no core
attached, registers unspecified (zero here, log entry 8; `reset()` writes each of them). -/
def State.constructed (params : Params) : State where
  A := 0
  X := 0
  Y := 0
  S := 0
  P := 0
  PC := 0
  countdown := 0
  waiting := false
  stopped := false
  diag := []
  phase := .constructed
  params := params
  devices := []
  attached := false
  mem := []
  listings := []
  hostCalls := []
  draws := 0
  deviceLog := []

/-- The state after `reset()` (10_state.md R140) of a core with the default parameters over RAM at every address with
nothing loaded (log entries 1, 2, 5). PC is `read16(0xFFFC)`, two unloaded bytes. -/
def State.reset : State where
  A := 0x00
  X := 0x00
  Y := 0x00
  S := 0xFD
  P := 0x34
  PC := 0x0000
  countdown := 8
  waiting := false
  stopped := false
  diag := []
  phase := .running
  params := Config.defaults
  devices := [wholeRam]
  attached := true
  mem := []
  listings := []
  hostCalls := []
  draws := 0
  deviceLog := []

end Sys2Proof.Machine
end

