-- ==== Sys2Proof/Machine/Memory.lean ====
section
/-!
DEFINITION. The contents of the RAM and ROM devices (spec 20_memory.md R200, R210, R211) as a list of bytes in one
canonical form: addresses strictly rising, no entry equal to what an unlisted address reads as.
-/

namespace Sys2Proof.Machine

/-- What an address with no entry reads as: the ONE definition of it (R210, 92_eei_decisions.md D30; log entry 2). -/
def unlisted (init : RamInit) (addr : Nat) : Byte :=
  match init with
  | .draw => Config.ramDraw addr
  | .fill b => b

/-- The entry of an address. -/
def Memory.lookup : Memory → Nat → Option Byte
  | [], _ => none
  | (k, v) :: rest, a => if k = a then some v else Memory.lookup rest a

/-- Without the entry of an address. -/
def Memory.erase : Memory → Nat → Memory
  | [], _ => []
  | (k, v) :: rest, a => if k = a then rest else (k, v) :: Memory.erase rest a

/-- With an entry for an address, in address order. -/
def Memory.insert : Memory → Nat → Byte → Memory
  | [], a, v => [(a, v)]
  | (k, w) :: rest, a, v =>
    if a < k then (a, v) :: (k, w) :: rest
    else if a = k then (a, v) :: rest
    else (k, w) :: Memory.insert rest a v

/-- The byte at an address (R210, R211: "the byte most recently written", or loaded). -/
def Memory.read (init : RamInit) (m : Memory) (a : Nat) : Byte :=
  (m.lookup a).getD (unlisted init a)

/-- The memory after a byte is stored (R210); it keeps the canonical form. -/
def Memory.write (init : RamInit) (m : Memory) (a : Nat) (v : Byte) : Memory :=
  if v = unlisted init a then m.erase a else m.insert a v

/-- Bytes stored at rising addresses from `a` (R212). -/
def Memory.writeAll (init : RamInit) (m : Memory) (a : Nat) : List Byte → Memory
  | [] => m
  | v :: vs => Memory.writeAll init (Memory.write init m a v) (a + 1) vs

/-- The canonical form: addresses strictly rising and inside the 65536 bytes of R200, no entry equal to what an
unlisted address reads as. -/
abbrev Memory.wf (init : RamInit) (m : Memory) : Prop :=
  m.Pairwise (fun c d => c.1 < d.1) ∧ ∀ c ∈ m, c.1 < 0x10000 ∧ c.2 ≠ unlisted init c.1

/-- The byte the RAM or ROM at a bus address holds: the model's read of one byte, with no bus access. -/
def State.byteAt (s : State) (addr : Word) : Byte :=
  Memory.read s.params.ramInit s.mem addr.toNat

end Sys2Proof.Machine
end

