-- ==== Sys2Proof/Machine/Ops.lean ====
section
/-!
DEFINITION. The named operations over the registers and the bus (spec 00_scope.md R11, R12; 20_memory.md R202 to R206,
R220, R230, R231) and the one shared exception entry and return (47_flags_system.md R1110, R1111; 60_exceptions.md
R1212). An operation reads and changes the state and may end in a bus error; the error keeps the state as it was at the
failing access, so that every effect before it stands (R1230).
-/

namespace Sys2Proof.Machine

/-- The two errors of a bus access (20_memory.md R204, R205). -/
inductive BusError where
  /-- No device owns the address. -/
  | addressError (addr : Word)
  /-- A read-only device owns the address of a write. -/
  | writeProtectionError (addr : Word)
  deriving DecidableEq, Repr

/-- An operation on the state. -/
abbrev Op := EStateM BusError State

/-! ## Registers (R11) -/

/-- The state itself. -/
def getState : Op State := fun s => .ok s s

/-- A change of the state that cannot fail. -/
def update (f : State → State) : Op Unit := fun s => .ok () (f s)

/-- `A <- v` -/
def setA (v : Byte) : Op Unit := update fun s => { s with A := v }
/-- `X <- v` -/
def setX (v : Byte) : Op Unit := update fun s => { s with X := v }
/-- `Y <- v` -/
def setY (v : Byte) : Op Unit := update fun s => { s with Y := v }
/-- `S <- v` -/
def setS (v : Byte) : Op Unit := update fun s => { s with S := v }
/-- `PC <- v` -/
def setPC (v : Word) : Op Unit := update fun s => { s with PC := v }
/-- `P <- f P`: a change of flags. -/
def updateP (f : Byte → Byte) : Op Unit := update fun s => { s with P := f s.P }

/-! ## Devices and the bus -/

/-- Whether the device's range holds the address (20_memory.md R204). -/
def Device.owns (d : Device) (addr : Nat) : Bool := decide (d.base ≤ addr ∧ addr < d.base + d.size)

/-- The index the bus gives the device (R206). -/
def Device.index (d : Device) (addr : Nat) : Nat := if d.absoluteAddress then addr else addr - d.base

/-- The bus address of an index of the device's backing store: the inverse of `Device.index` on the device's range. -/
def Device.cell (d : Device) (index : Nat) : Nat := if d.absoluteAddress then index else d.base + index

/-- The device that owns an address: the unique registered range that holds it (R204). -/
def ownerOf (devices : List Device) (addr : Nat) : Option Device := devices.find? (·.owns addr)

/-- `device.read(index)` (R210, R211, R213): a RAM or ROM answers the byte it holds, an external device a free value. -/
def Device.read (d : Device) (index : Nat) : Op Byte := fun s =>
  match d.kind with
  | .ram | .rom => .ok (Memory.read s.params.ramInit s.mem (d.cell index)) s
  | .external _ =>
    .ok (Config.deviceAnswer s.draws)
      { s with draws := s.draws + 1, deviceLog := s.deviceLog ++ [⟨d.base, index, none⟩] }

/-- `device.write(index, v)` (R205, R210, R211, R213); a read-only device fails the write and changes nothing. -/
def Device.write (d : Device) (addr : Word) (index : Nat) (v : Byte) : Op Unit := fun s =>
  match d.kind with
  | .ram => .ok () { s with mem := Memory.write s.params.ramInit s.mem (d.cell index) v }
  | .rom | .external true => .error (.writeProtectionError addr) s
  | .external false => .ok () { s with deviceLog := s.deviceLog ++ [⟨d.base, index, some v⟩] }

/-- `read(addr)` (R204). -/
def busRead (addr : Word) : Op Byte := fun s =>
  match ownerOf s.devices addr.toNat with
  | none => .error (.addressError addr) s
  | some d => d.read (d.index addr.toNat) s

/-- `write(addr, v)` (R205). -/
def busWrite (addr : Word) (v : Byte) : Op Unit := fun s =>
  match ownerOf s.devices addr.toNat with
  | none => .error (.addressError addr) s
  | some d => d.write addr (d.index addr.toNat) v s

/-- `read16(a)` (R12, R220): low byte at `a`, high byte at `u16(a + 1)`. -/
def read16 (a : Word) : Op Word := do
  let l ← busRead a
  let h ← busRead (a + 1)
  pure (word h l)

/-! ## The stack -/

/-- The address the stack pointer names: `0x0100 + S` (10_state.md R104). -/
def stackAddr (s : Byte) : Word := 0x0100#16 + zext s

/-- `push(v)` (R230): `write(0x0100 + S, v); S <- u8(S - 1)`. -/
def push (v : Byte) : Op Unit := do
  let s ← getState
  busWrite (stackAddr s.S) v
  setS (s.S - 1)

/-- `pull()` (R231): `S <- u8(S + 1); return read(0x0100 + S)`. -/
def pull : Op Byte := do
  let s ← getState
  setS (s.S + 1)
  busRead (stackAddr (s.S + 1))

/-! ## Taking an exception and returning from it -/

/-- NMI vector (60_exceptions.md R1201). -/
def vectorNmi : Word := 0xFFFA
/-- RESET vector. -/
def vectorReset : Word := 0xFFFC
/-- IRQ and BRK vector. -/
def vectorIrq : Word := 0xFFFE

/-- The entry shared by BRK, IRQ and NMI (R1110, R1212): PC high, PC low and the given image of P are pushed, I is set
and D cleared, PC is loaded from the vector. -/
def enterException (vector : Word) (image : Byte → Byte) : Op Unit := do
  let s ← getState
  push (hi s.PC)
  push (lo s.PC)
  push (image s.P)
  updateP fun p => setD false (setI true p)
  let target ← read16 vector
  setPC target

/-- The return of RTI (R1111): `P <- pull() | U; l <- pull(); h <- pull(); PC <- h:l`. -/
def returnFromException : Op Unit := do
  let p ← pull
  updateP fun _ => loadedP p
  let l ← pull
  let h ← pull
  setPC (word h l)

/-! ## The end of a host call -/

/-- The fault a bus error is: the call ends, and after it only `reset()` is accepted (R1230). -/
def BusError.fault (e : BusError) (s : State) : Fault :=
  match e with
  | .addressError addr => .addressError addr { s with phase := .faulted }
  | .writeProtectionError addr => .writeProtectionError addr { s with phase := .faulted }

/-- The outcome of an operation run from a state. -/
def outcomeOf (x : Op Unit) (s : State) : Host.Outcome State Fault Refusal :=
  match x s with
  | .ok _ s' => .next s'
  | .error e s' => .fault (e.fault s')

end Sys2Proof.Machine
end

