-- ==== Sys2Proof/Machine/Operands.lean ====
section
/-!
DEFINITION. The resolver of the 17 addressing modes (spec 40_addressing_modes.md). It runs when the operand bytes have
been fetched and PC is the address after the instruction. It writes no register and no memory (R400).
-/

namespace Sys2Proof.Machine

/-- `effective_location` (R400): a 16-bit address, the accumulator pseudo-location, or none. -/
inductive Loc where
  | addr (a : Word)
  | acc
  | none
  deriving DecidableEq, Repr

/-- What the resolver answers: `(loc, m, extra, disp)` (R400). -/
structure Resolved where
  loc : Loc
  m : Option Byte
  extra : Bool
  disp : Option Byte
  deriving DecidableEq, Repr

/-- The operand byte `m`. The operations that read it run in modes that have one; 0 stands for the absent one. -/
def Resolved.byte (r : Resolved) : Byte := r.m.getD 0

/-- The second displacement byte of ZPREL (R417); 0 stands for the absent one. -/
def Resolved.displacement (r : Resolved) : Byte := r.disp.getD 0

/-- `ptrhi(p, wrap)` (R420): the address of a pointer's high byte. -/
def ptrhi (p : Word) (wrap : Bool) : Word :=
  if wrap then (p &&& 0xFF00#16) ||| zext (lo p + 1) else p + 1

/-- The value of `JMP_IND_PAGE_WRAP` (R411): equal to `ZERO_PAGE_BUG` unless the configuration sets it. -/
def jmpWrap (params : Params) : Bool := params.jmpIndPageWrap.getD params.zeroPageBug

/-- A pointer read low byte first, its high byte at the address given (R411, R412, R413, R415, R416). -/
def readPointer (low high : Word) : Op Word := do
  let l ← busRead low
  let h ← busRead high
  pure (word h l)

/-- A mode whose location is an address makes one read of it, whatever the operation (R400). -/
def atAddress (loc : Word) (extra : Bool) (disp : Option Byte) : Op Resolved := do
  let m ← busRead loc
  pure ⟨.addr loc, some m, extra, disp⟩

/-- An index added to a 16-bit base: `extra` when the page changes (R401). -/
def indexed (base : Word) (index : Byte) : Op Resolved :=
  let loc := base + zext index
  atAddress loc (decide (hi base ≠ hi loc)) none

/-- The addressing-mode resolver (R402 to R418). -/
def resolve (o : Operand) : Op Resolved := do
  let s ← getState
  match o with
  | .imp => pure ⟨.none, none, false, none⟩
  | .acc => pure ⟨.acc, some s.A, false, none⟩
  | .imm b => pure ⟨.addr (s.PC - 1), some b, false, none⟩
  | .zp z => atAddress (zext z) false none
  | .zpx z => atAddress (zext (z + s.X)) false none
  | .zpy z => atAddress (zext (z + s.Y)) false none
  | .abs w => atAddress w false none
  | .absx w => indexed w s.X
  | .absy w => indexed w s.Y
  | .ind p => do
    let loc ← readPointer p (ptrhi p (jmpWrap s.params))
    atAddress loc false none
  | .indx z => do
    let p := zext (z + s.X)
    let loc ← readPointer p (ptrhi p s.params.zeroPageBug)
    atAddress loc false none
  | .indy z => do
    let base ← readPointer (zext z) (ptrhi (zext z) s.params.zeroPageBug)
    indexed base s.Y
  | .rel d => pure ⟨.none, some d, false, none⟩
  | .zpind z => do
    let loc ← readPointer (zext z) (ptrhi (zext z) s.params.zeroPageBug)
    atAddress loc false none
  | .absindx w => do
    let p := w + zext s.X
    let loc ← readPointer p (p + 1)
    atAddress loc false none
  | .zprel z d => atAddress (zext z) false (some d)
  | .stack => pure ⟨.none, none, false, none⟩

/-- `store(loc, v)` (R400): A for the accumulator pseudo-location, else a bus write. -/
def store (loc : Loc) (v : Byte) : Op Unit :=
  match loc with
  | .acc => setA v
  | .addr a => busWrite a v
  | .none => pure ()

end Sys2Proof.Machine
end

