-- ==== Sys2Proof/Machine/Execute.lean ====
section
/-!
DEFINITION. What every instruction shares (spec 30_encoding.md R320, 70_reset_and_hazards.md R1303, R1304): resolve the
operand, run the operation, load the countdown with the cost. An operation is a function of the resolver's answer that
returns its cycle adjustment, "0 except for branches" (R320).
-/

namespace Sys2Proof.Machine

/-- `CYCLES[op]` (00_scope.md R9): the configuration's value, or the table's (30_encoding.md R310). -/
def baseCycles (params : Params) (op : Byte) : Nat :=
  (params.cycles.lookup op).getD (tableEntry op).cycles

/-- `PAGE_PENALTY[op]` (00_scope.md R9): the configuration's value, or the list's (70_reset_and_hazards.md R1303). -/
def paysPenalty (params : Params) (op : Byte) : Bool :=
  (params.pagePenalties.lookup op).getD (pagePenalty op)

/-- The cost of one instruction (R1304). -/
def cost (params : Params) (op : Byte) (extra : Bool) (adj : Nat) : Nat :=
  baseCycles params op + (if extra && paysPenalty params op then 1 else 0) + adj

/-- `countdown <- cost` (R320). -/
def loadCountdown (op : Byte) (extra : Bool) (adj : Nat) : Op Unit :=
  update fun s => { s with countdown := cost s.params op extra adj }

/-- The part of `step()` after the fetch (R320): resolve, operate, load the countdown. -/
def resolveAndRun (op : Byte) (o : Operand) (operation : Resolved → Op Nat) : Op Unit := do
  let r ← resolve o
  let adj ← operation r
  loadCountdown op r.extra adj

/-- Runs an instruction from the state in which its bytes have been fetched. A term that is no instruction has no opcode
byte and is refused. -/
def execute (i : Instr) (operation : Resolved → Op Nat) (s : State) : Host.Outcome State Fault Refusal :=
  match i.opcode? with
  | none => .refused .illFormed
  | some op => outcomeOf (resolveAndRun op i.operand operation) s

/-- An operation that makes no cycle adjustment. -/
def plain (x : Op Unit) : Op Nat := do
  x
  pure 0

/-- `setNZ(v)` on P (00_scope.md R13). -/
def updateNZ (v : Byte) : Op Unit := updateP (setNZ v)

end Sys2Proof.Machine
end

