-- ==== Sys2Proof/Machine/Arithmetic.lean ====
section
/-!
DEFINITION. Arithmetic, compare, increment and decrement (spec 43_arithmetic.md R710 to R720).
-/

namespace Sys2Proof.Machine

/-- An addition or subtraction into A that reads and writes P (R710, R711). -/
def intoA (alu : DecimalNZ → Byte → Byte → Byte → Byte × Byte) (r : Resolved) : Op Nat := plain do
  let s ← getState
  let out := alu s.params.decimalNZ s.A r.byte s.P
  updateP fun _ => out.2
  setA out.1

/-- ADC (R710): binary or decimal addition of A, the operand and the carry. -/
def execAdc (o : Operand) (s : State) : Host.Outcome State Fault Refusal :=
  execute (.adc o) (intoA adcAlu) s

/-- SBC (R711): binary or decimal subtraction with borrow. -/
def execSbc (o : Operand) (s : State) : Host.Outcome State Fault Refusal :=
  execute (.sbc o) (intoA sbcAlu) s

/-- A compare of a register with the operand (R707). -/
def compareWith (register : State → Byte) (r : Resolved) : Op Nat := plain do
  let s ← getState
  updateP (cmpFlags (register s) r.byte)

/-- CMP (R712): `cmp(A, m)`. -/
def execCmp (o : Operand) (s : State) : Host.Outcome State Fault Refusal :=
  execute (.cmp o) (compareWith (·.A)) s

/-- CPX (R713): `cmp(X, m)`. -/
def execCpx (o : Operand) (s : State) : Host.Outcome State Fault Refusal :=
  execute (.cpx o) (compareWith (·.X)) s

/-- CPY (R714): `cmp(Y, m)`. -/
def execCpy (o : Operand) (s : State) : Host.Outcome State Fault Refusal :=
  execute (.cpy o) (compareWith (·.Y)) s

/-- A change of the operand in place: `r <- f m; store(loc, r); setNZ(r)` (R715, R716). -/
def stepInPlace (f : Byte → Byte) (r : Resolved) : Op Nat := plain do
  store r.loc (f r.byte)
  updateNZ (f r.byte)

/-- INC (R715): `r <- u8(m + 1); store(loc, r); setNZ(r)`. -/
def execInc (o : Operand) (s : State) : Host.Outcome State Fault Refusal :=
  execute (.inc o) (stepInPlace (· + 1)) s

/-- DEC (R716): `r <- u8(m - 1); store(loc, r); setNZ(r)`. -/
def execDec (o : Operand) (s : State) : Host.Outcome State Fault Refusal :=
  execute (.dec o) (stepInPlace (· - 1)) s

/-- A change of an index register: `R <- v; setNZ(R)` (R717 to R720). -/
def stepRegister (value : State → Byte) (put : Byte → Op Unit) : Op Nat := plain do
  let s ← getState
  put (value s)
  updateNZ (value s)

/-- INX (R717): `X <- u8(X + 1); setNZ(X)`. -/
def execInx (s : State) : Host.Outcome State Fault Refusal :=
  execute .inx (fun _ => stepRegister (·.X + 1) setX) s

/-- INY (R718): `Y <- u8(Y + 1); setNZ(Y)`. -/
def execIny (s : State) : Host.Outcome State Fault Refusal :=
  execute .iny (fun _ => stepRegister (·.Y + 1) setY) s

/-- DEX (R719): `X <- u8(X - 1); setNZ(X)`. -/
def execDex (s : State) : Host.Outcome State Fault Refusal :=
  execute .dex (fun _ => stepRegister (·.X - 1) setX) s

/-- DEY (R720): `Y <- u8(Y - 1); setNZ(Y)`. -/
def execDey (s : State) : Host.Outcome State Fault Refusal :=
  execute .dey (fun _ => stepRegister (·.Y - 1) setY) s

end Sys2Proof.Machine
end

