-- ==== Sys2Proof/Machine/Control.lean ====
section
/-!
DEFINITION. Branches, jumps and subroutine calls (spec 46_control.md R1000 to R1023). When an operation of this file
runs, PC is the address after the whole instruction.
-/

namespace Sys2Proof.Machine

/-- The target of a branch: `u16(PC + sext_8(disp))` (R1001). -/
def branchTarget (pc : Word) (disp : Byte) : Word := pc + sext disp

/-- The cycle adjustment of a taken branch: 1, and 1 more when the page changes (R1002). -/
def branchCycles (pc : Word) (disp : Byte) : Nat :=
  if hi (branchTarget pc disp) ≠ hi pc then 2 else 1

/-- `branch(taken, disp)` (R1002). -/
def branch (taken : Bool) (disp : Byte) : Op Nat := do
  let s ← getState
  if taken then
    setPC (branchTarget s.PC disp)
    pure (branchCycles s.PC disp)
  else pure 0

/-- A branch on a flag of P: the displacement is the operand byte of REL (R414). -/
def branchOnFlag (taken : Byte → Bool) (r : Resolved) : Op Nat := do
  let s ← getState
  branch (taken s.P) r.byte

/-- BPL (R1010): branch if N = 0. -/
def execBpl (disp : Byte) (s : State) : Host.Outcome State Fault Refusal :=
  execute (.bpl disp) (branchOnFlag (fun p => !flagN p)) s

/-- BMI (R1011): branch if N = 1. -/
def execBmi (disp : Byte) (s : State) : Host.Outcome State Fault Refusal :=
  execute (.bmi disp) (branchOnFlag flagN) s

/-- BVC (R1012): branch if V = 0. -/
def execBvc (disp : Byte) (s : State) : Host.Outcome State Fault Refusal :=
  execute (.bvc disp) (branchOnFlag (fun p => !flagV p)) s

/-- BVS (R1013): branch if V = 1. -/
def execBvs (disp : Byte) (s : State) : Host.Outcome State Fault Refusal :=
  execute (.bvs disp) (branchOnFlag flagV) s

/-- BCC (R1014): branch if C = 0. -/
def execBcc (disp : Byte) (s : State) : Host.Outcome State Fault Refusal :=
  execute (.bcc disp) (branchOnFlag (fun p => !flagC p)) s

/-- BCS (R1015): branch if C = 1. -/
def execBcs (disp : Byte) (s : State) : Host.Outcome State Fault Refusal :=
  execute (.bcs disp) (branchOnFlag flagC) s

/-- BNE (R1016): branch if Z = 0. -/
def execBne (disp : Byte) (s : State) : Host.Outcome State Fault Refusal :=
  execute (.bne disp) (branchOnFlag (fun p => !flagZ p)) s

/-- BEQ (R1017): branch if Z = 1. -/
def execBeq (disp : Byte) (s : State) : Host.Outcome State Fault Refusal :=
  execute (.beq disp) (branchOnFlag flagZ) s

/-- BRA (R1018): branch always. -/
def execBra (disp : Byte) (s : State) : Host.Outcome State Fault Refusal :=
  execute (.bra disp) (branchOnFlag (fun _ => true)) s

/-- `branch(m[n] == value, disp)` (R1019, R1020). -/
def branchOnBit (n : Nat) (value : Bool) (r : Resolved) : Op Nat :=
  branch (r.byte.getLsbD n == value) r.displacement

/-- BBR0 (R1019): branch if bit 0 of the zero-page byte is 0. -/
def execBbr0 (zp disp : Byte) (s : State) : Host.Outcome State Fault Refusal :=
  execute (.bbr0 zp disp) (branchOnBit 0 false) s

/-- BBR1 (R1019): branch if bit 1 of the zero-page byte is 0. -/
def execBbr1 (zp disp : Byte) (s : State) : Host.Outcome State Fault Refusal :=
  execute (.bbr1 zp disp) (branchOnBit 1 false) s

/-- BBR2 (R1019): branch if bit 2 of the zero-page byte is 0. -/
def execBbr2 (zp disp : Byte) (s : State) : Host.Outcome State Fault Refusal :=
  execute (.bbr2 zp disp) (branchOnBit 2 false) s

/-- BBR3 (R1019): branch if bit 3 of the zero-page byte is 0. -/
def execBbr3 (zp disp : Byte) (s : State) : Host.Outcome State Fault Refusal :=
  execute (.bbr3 zp disp) (branchOnBit 3 false) s

/-- BBR4 (R1019): branch if bit 4 of the zero-page byte is 0. -/
def execBbr4 (zp disp : Byte) (s : State) : Host.Outcome State Fault Refusal :=
  execute (.bbr4 zp disp) (branchOnBit 4 false) s

/-- BBR5 (R1019): branch if bit 5 of the zero-page byte is 0. -/
def execBbr5 (zp disp : Byte) (s : State) : Host.Outcome State Fault Refusal :=
  execute (.bbr5 zp disp) (branchOnBit 5 false) s

/-- BBR6 (R1019): branch if bit 6 of the zero-page byte is 0. -/
def execBbr6 (zp disp : Byte) (s : State) : Host.Outcome State Fault Refusal :=
  execute (.bbr6 zp disp) (branchOnBit 6 false) s

/-- BBR7 (R1019): branch if bit 7 of the zero-page byte is 0. -/
def execBbr7 (zp disp : Byte) (s : State) : Host.Outcome State Fault Refusal :=
  execute (.bbr7 zp disp) (branchOnBit 7 false) s

/-- BBS0 (R1020): branch if bit 0 of the zero-page byte is 1. -/
def execBbs0 (zp disp : Byte) (s : State) : Host.Outcome State Fault Refusal :=
  execute (.bbs0 zp disp) (branchOnBit 0 true) s

/-- BBS1 (R1020): branch if bit 1 of the zero-page byte is 1. -/
def execBbs1 (zp disp : Byte) (s : State) : Host.Outcome State Fault Refusal :=
  execute (.bbs1 zp disp) (branchOnBit 1 true) s

/-- BBS2 (R1020): branch if bit 2 of the zero-page byte is 1. -/
def execBbs2 (zp disp : Byte) (s : State) : Host.Outcome State Fault Refusal :=
  execute (.bbs2 zp disp) (branchOnBit 2 true) s

/-- BBS3 (R1020): branch if bit 3 of the zero-page byte is 1. -/
def execBbs3 (zp disp : Byte) (s : State) : Host.Outcome State Fault Refusal :=
  execute (.bbs3 zp disp) (branchOnBit 3 true) s

/-- BBS4 (R1020): branch if bit 4 of the zero-page byte is 1. -/
def execBbs4 (zp disp : Byte) (s : State) : Host.Outcome State Fault Refusal :=
  execute (.bbs4 zp disp) (branchOnBit 4 true) s

/-- BBS5 (R1020): branch if bit 5 of the zero-page byte is 1. -/
def execBbs5 (zp disp : Byte) (s : State) : Host.Outcome State Fault Refusal :=
  execute (.bbs5 zp disp) (branchOnBit 5 true) s

/-- BBS6 (R1020): branch if bit 6 of the zero-page byte is 1. -/
def execBbs6 (zp disp : Byte) (s : State) : Host.Outcome State Fault Refusal :=
  execute (.bbs6 zp disp) (branchOnBit 6 true) s

/-- BBS7 (R1020): branch if bit 7 of the zero-page byte is 1. -/
def execBbs7 (zp disp : Byte) (s : State) : Host.Outcome State Fault Refusal :=
  execute (.bbs7 zp disp) (branchOnBit 7 true) s

/-- `PC <- loc` when the location is an address; JMP and JSR have no other mode. -/
def jumpTo (loc : Loc) : Op Unit :=
  match loc with
  | .addr a => setPC a
  | .acc | .none => pure ()

/-- JMP (R1021): `PC <- loc`. -/
def execJmp (o : Operand) (s : State) : Host.Outcome State Fault Refusal :=
  execute (.jmp o) (fun r => plain (jumpTo r.loc)) s

/-- JSR (R1022): pushes `PC - 1`, high byte first, and jumps. -/
def execJsr (target : Word) (s : State) : Host.Outcome State Fault Refusal :=
  execute (.jsr target) (fun r => plain do
    let s ← getState
    push (hi (s.PC - 1))
    push (lo (s.PC - 1))
    jumpTo r.loc) s

/-- RTS (R1023): `l <- pull(); h <- pull(); PC <- u16(h:l + 1)`. -/
def execRts (s : State) : Host.Outcome State Fault Refusal :=
  execute .rts (fun _ => plain do
    let l ← pull
    let h ← pull
    setPC (word h l + 1)) s

end Sys2Proof.Machine
end

