-- ==== Sys2Proof/Machine/LoadStore.lean ====
section
/-!
DEFINITION. Loads and stores (spec 41_load_store.md R501 to R507).
-/

namespace Sys2Proof.Machine

/-- LDA (R501): `A <- m; setNZ(A)`. -/
def execLda (o : Operand) (s : State) : Host.Outcome State Fault Refusal :=
  execute (.lda o) (fun r => plain do setA r.byte; updateNZ r.byte) s

/-- LDX (R502): `X <- m; setNZ(X)`. -/
def execLdx (o : Operand) (s : State) : Host.Outcome State Fault Refusal :=
  execute (.ldx o) (fun r => plain do setX r.byte; updateNZ r.byte) s

/-- LDY (R503): `Y <- m; setNZ(Y)`. -/
def execLdy (o : Operand) (s : State) : Host.Outcome State Fault Refusal :=
  execute (.ldy o) (fun r => plain do setY r.byte; updateNZ r.byte) s

/-- A store of a register's value: `write(loc, v)`, no flag (R504 to R507). -/
def storeValue (value : State → Byte) (r : Resolved) : Op Nat := plain do
  let s ← getState
  store r.loc (value s)

/-- STA (R504): `write(loc, A)`. -/
def execSta (o : Operand) (s : State) : Host.Outcome State Fault Refusal :=
  execute (.sta o) (storeValue (·.A)) s

/-- STX (R505): `write(loc, X)`. -/
def execStx (o : Operand) (s : State) : Host.Outcome State Fault Refusal :=
  execute (.stx o) (storeValue (·.X)) s

/-- STY (R506): `write(loc, Y)`. -/
def execSty (o : Operand) (s : State) : Host.Outcome State Fault Refusal :=
  execute (.sty o) (storeValue (·.Y)) s

/-- STZ (R507): `write(loc, 0x00)`. -/
def execStz (o : Operand) (s : State) : Host.Outcome State Fault Refusal :=
  execute (.stz o) (storeValue fun _ => 0x00) s

end Sys2Proof.Machine
end

