-- ==== Sys2Proof/Machine/Logic.lean ====
section
/-!
DEFINITION. Logical operations and bit operations (spec 44_logic_bit.md R801 to R808).
-/

namespace Sys2Proof.Machine

/-- A logical operation into A: `A <- f A m; setNZ(A)` (R801 to R803). -/
def logicA (f : Byte → Byte → Byte) (r : Resolved) : Op Nat := plain do
  let s ← getState
  setA (f s.A r.byte)
  updateNZ (f s.A r.byte)

/-- AND (R801): `A <- A & m; setNZ(A)`. -/
def execAnd (o : Operand) (s : State) : Host.Outcome State Fault Refusal :=
  execute (.and o) (logicA (· &&& ·)) s

/-- ORA (R802): `A <- A | m; setNZ(A)`. -/
def execOra (o : Operand) (s : State) : Host.Outcome State Fault Refusal :=
  execute (.ora o) (logicA (· ||| ·)) s

/-- EOR (R803): `A <- A ^ m; setNZ(A)`. -/
def execEor (o : Operand) (s : State) : Host.Outcome State Fault Refusal :=
  execute (.eor o) (logicA (· ^^^ ·)) s

/-- BIT (R804): Z from `A & m`, and for every mode but IMM N and V from bits 7 and 6 of `m`. -/
def execBit (o : Operand) (s : State) : Host.Outcome State Fault Refusal :=
  execute (.bit o) (fun r => plain do
    let s ← getState
    updateP (bitFlags (decide (o.mode = .IMM)) s.A r.byte)) s

/-- Test against A and write back: Z from `A & m` before the write, no other flag (R805, R806). -/
def testAndWrite (f : Byte → Byte → Byte) (r : Resolved) : Op Nat := plain do
  let s ← getState
  updateP (setZ (decide (s.A &&& r.byte = 0)))
  store r.loc (f s.A r.byte)

/-- TRB (R805): `P.Z <- ((A & m) == 0); write(loc, m & ~A)`. -/
def execTrb (o : Operand) (s : State) : Host.Outcome State Fault Refusal :=
  execute (.trb o) (testAndWrite fun a m => m &&& ~~~a) s

/-- TSB (R806): `P.Z <- ((A & m) == 0); write(loc, m | A)`. -/
def execTsb (o : Operand) (s : State) : Host.Outcome State Fault Refusal :=
  execute (.tsb o) (testAndWrite fun a m => m ||| a) s

/-- `write(loc, m & ~(1 << n))` (R807). -/
def resetBit (n : Nat) (r : Resolved) : Op Nat := plain (store r.loc (r.byte &&& ~~~bitMask n))

/-- `write(loc, m | (1 << n))` (R808). -/
def setBit (n : Nat) (r : Resolved) : Op Nat := plain (store r.loc (r.byte ||| bitMask n))

/-- RMB0 (R807): reset bit 0 of the zero-page byte. -/
def execRmb0 (zp : Byte) (s : State) : Host.Outcome State Fault Refusal :=
  execute (.rmb0 zp) (resetBit 0) s

/-- RMB1 (R807): reset bit 1 of the zero-page byte. -/
def execRmb1 (zp : Byte) (s : State) : Host.Outcome State Fault Refusal :=
  execute (.rmb1 zp) (resetBit 1) s

/-- RMB2 (R807): reset bit 2 of the zero-page byte. -/
def execRmb2 (zp : Byte) (s : State) : Host.Outcome State Fault Refusal :=
  execute (.rmb2 zp) (resetBit 2) s

/-- RMB3 (R807): reset bit 3 of the zero-page byte. -/
def execRmb3 (zp : Byte) (s : State) : Host.Outcome State Fault Refusal :=
  execute (.rmb3 zp) (resetBit 3) s

/-- RMB4 (R807): reset bit 4 of the zero-page byte. -/
def execRmb4 (zp : Byte) (s : State) : Host.Outcome State Fault Refusal :=
  execute (.rmb4 zp) (resetBit 4) s

/-- RMB5 (R807): reset bit 5 of the zero-page byte. -/
def execRmb5 (zp : Byte) (s : State) : Host.Outcome State Fault Refusal :=
  execute (.rmb5 zp) (resetBit 5) s

/-- RMB6 (R807): reset bit 6 of the zero-page byte. -/
def execRmb6 (zp : Byte) (s : State) : Host.Outcome State Fault Refusal :=
  execute (.rmb6 zp) (resetBit 6) s

/-- RMB7 (R807): reset bit 7 of the zero-page byte. -/
def execRmb7 (zp : Byte) (s : State) : Host.Outcome State Fault Refusal :=
  execute (.rmb7 zp) (resetBit 7) s

/-- SMB0 (R808): set bit 0 of the zero-page byte. -/
def execSmb0 (zp : Byte) (s : State) : Host.Outcome State Fault Refusal :=
  execute (.smb0 zp) (setBit 0) s

/-- SMB1 (R808): set bit 1 of the zero-page byte. -/
def execSmb1 (zp : Byte) (s : State) : Host.Outcome State Fault Refusal :=
  execute (.smb1 zp) (setBit 1) s

/-- SMB2 (R808): set bit 2 of the zero-page byte. -/
def execSmb2 (zp : Byte) (s : State) : Host.Outcome State Fault Refusal :=
  execute (.smb2 zp) (setBit 2) s

/-- SMB3 (R808): set bit 3 of the zero-page byte. -/
def execSmb3 (zp : Byte) (s : State) : Host.Outcome State Fault Refusal :=
  execute (.smb3 zp) (setBit 3) s

/-- SMB4 (R808): set bit 4 of the zero-page byte. -/
def execSmb4 (zp : Byte) (s : State) : Host.Outcome State Fault Refusal :=
  execute (.smb4 zp) (setBit 4) s

/-- SMB5 (R808): set bit 5 of the zero-page byte. -/
def execSmb5 (zp : Byte) (s : State) : Host.Outcome State Fault Refusal :=
  execute (.smb5 zp) (setBit 5) s

/-- SMB6 (R808): set bit 6 of the zero-page byte. -/
def execSmb6 (zp : Byte) (s : State) : Host.Outcome State Fault Refusal :=
  execute (.smb6 zp) (setBit 6) s

/-- SMB7 (R808): set bit 7 of the zero-page byte. -/
def execSmb7 (zp : Byte) (s : State) : Host.Outcome State Fault Refusal :=
  execute (.smb7 zp) (setBit 7) s

end Sys2Proof.Machine
end

