-- ==== Sys2Proof/Machine/Shift.lean ====
section
/-!
DEFINITION. Shifts and rotates (spec 45_shift_rotate.md R901 to R904), on memory and on the accumulator.
-/

namespace Sys2Proof.Machine

/-- `P.C <- the bit that leaves; store(loc, r); setNZ(r)`, the carry written before the store (R901 to R904). The
shifter takes the old carry. -/
def shiftInPlace (f : Bool → Byte → Byte × Bool) (r : Resolved) : Op Nat := plain do
  let s ← getState
  let out := f (flagC s.P) r.byte
  updateP (setC out.2)
  store r.loc out.1
  updateNZ out.1

/-- ASL (R901). -/
def execAsl (o : Operand) (s : State) : Host.Outcome State Fault Refusal :=
  execute (.asl o) (shiftInPlace fun _ => aslAlu) s

/-- LSR (R902). -/
def execLsr (o : Operand) (s : State) : Host.Outcome State Fault Refusal :=
  execute (.lsr o) (shiftInPlace fun _ => lsrAlu) s

/-- ROL (R903). -/
def execRol (o : Operand) (s : State) : Host.Outcome State Fault Refusal :=
  execute (.rol o) (shiftInPlace rolAlu) s

/-- ROR (R904). -/
def execRor (o : Operand) (s : State) : Host.Outcome State Fault Refusal :=
  execute (.ror o) (shiftInPlace rorAlu) s

end Sys2Proof.Machine
end

