-- ==== Sys2Proof/Machine/System.lean ====
section
/-!
DEFINITION. Flag instructions, no-ops, BRK, RTI, WAI and STP (spec 47_flags_system.md R1101 to R1113).
-/

namespace Sys2Proof.Machine

/-- CLC (R1101): `P.C <- 0`. -/
def execClc (s : State) : Host.Outcome State Fault Refusal :=
  execute .clc (fun _ => plain (updateP (setC false))) s

/-- CLD (R1102): `P.D <- 0`. -/
def execCld (s : State) : Host.Outcome State Fault Refusal :=
  execute .cld (fun _ => plain (updateP (setD false))) s

/-- CLI (R1103): `P.I <- 0`. -/
def execCli (s : State) : Host.Outcome State Fault Refusal :=
  execute .cli (fun _ => plain (updateP (setI false))) s

/-- CLV (R1104): `P.V <- 0`. -/
def execClv (s : State) : Host.Outcome State Fault Refusal :=
  execute .clv (fun _ => plain (updateP (setV false))) s

/-- SEC (R1105): `P.C <- 1`. -/
def execSec (s : State) : Host.Outcome State Fault Refusal :=
  execute .sec (fun _ => plain (updateP (setC true))) s

/-- SED (R1106): `P.D <- 1`. -/
def execSed (s : State) : Host.Outcome State Fault Refusal :=
  execute .sed (fun _ => plain (updateP (setD true))) s

/-- SEI (R1107): `P.I <- 1`. -/
def execSei (s : State) : Host.Outcome State Fault Refusal :=
  execute .sei (fun _ => plain (updateP (setI true))) s

/-- NOP (R1108): nothing. -/
def execNop (s : State) : Host.Outcome State Fault Refusal :=
  execute .nop (fun _ => pure 0) s

/-- Appends the diagnostic record of an undefined opcode (R1109, 10_state.md R133). -/
def recordUnsupported (op : Byte) (addr : Word) : Op Unit :=
  update fun s => { s with diag := s.diag ++ [.unsupportedOpcode op addr] }

/-- UNDEF (R1109): the resolver's answer is ignored, and a record with the opcode's address is appended. The opcode lies
one byte and the operand bytes before PC. -/
def execUndef (op : Byte) (o : Operand) (s : State) : Host.Outcome State Fault Refusal :=
  execute (.undef op o) (fun _ => plain do
    let s ← getState
    recordUnsupported op (s.PC - BitVec.ofNat 16 (1 + operandBytes o.mode))) s

/-- BRK (R1110): skips the padding byte, then takes the exception through 0xFFFE with B set in the pushed P. -/
def execBrk (s : State) : Host.Outcome State Fault Refusal :=
  execute .brk (fun _ => plain do
    let s ← getState
    setPC (s.PC + 1)
    enterException vectorIrq imageSw) s

/-- RTI (R1111): P, PC low and PC high from the stack. -/
def execRti (s : State) : Host.Outcome State Fault Refusal :=
  execute .rti (fun _ => plain returnFromException) s

/-- WAI (R1112): `waiting <- true`. -/
def execWai (s : State) : Host.Outcome State Fault Refusal :=
  execute .wai (fun _ => plain (update fun s => { s with waiting := true })) s

/-- STP (R1113): `stopped <- true`. -/
def execStp (s : State) : Host.Outcome State Fault Refusal :=
  execute .stp (fun _ => plain (update fun s => { s with stopped := true })) s

end Sys2Proof.Machine
end

