-- ==== Sys2Proof/Machine/Transfer.lean ====
section
/-!
DEFINITION. Register transfers, pushes and pulls (spec 42_transfer_stack.md R601 to R614).
-/

namespace Sys2Proof.Machine

/-- A transfer that sets N and Z from the value moved (R601 to R604, R606). -/
def transfer (source : State → Byte) (put : Byte → Op Unit) : Op Nat := plain do
  let s ← getState
  put (source s)
  updateNZ (source s)

/-- TAX (R601): `X <- A; setNZ(X)`. -/
def execTax (s : State) : Host.Outcome State Fault Refusal :=
  execute .tax (fun _ => transfer (·.A) setX) s

/-- TAY (R602): `Y <- A; setNZ(Y)`. -/
def execTay (s : State) : Host.Outcome State Fault Refusal :=
  execute .tay (fun _ => transfer (·.A) setY) s

/-- TSX (R603): `X <- S; setNZ(X)`. -/
def execTsx (s : State) : Host.Outcome State Fault Refusal :=
  execute .tsx (fun _ => transfer (·.S) setX) s

/-- TXA (R604): `A <- X; setNZ(A)`. -/
def execTxa (s : State) : Host.Outcome State Fault Refusal :=
  execute .txa (fun _ => transfer (·.X) setA) s

/-- TXS (R605): `S <- X`, "the one transfer that writes no flag". -/
def execTxs (s : State) : Host.Outcome State Fault Refusal :=
  execute .txs (fun _ => plain do let s ← getState; setS s.X) s

/-- TYA (R606): `A <- Y; setNZ(A)`. -/
def execTya (s : State) : Host.Outcome State Fault Refusal :=
  execute .tya (fun _ => transfer (·.Y) setA) s

/-- A push of a value of the state (R607, R608, R611, R612). -/
def pushValue (value : State → Byte) : Op Nat := plain do
  let s ← getState
  push (value s)

/-- A pull into a register that sets N and Z (R609, R613, R614). -/
def pullValue (put : Byte → Op Unit) : Op Nat := plain do
  let v ← pull
  put v
  updateNZ v

/-- PHA (R607): `push(A)`. -/
def execPha (s : State) : Host.Outcome State Fault Refusal :=
  execute .pha (fun _ => pushValue (·.A)) s

/-- PHP (R608): `push(P | B | U)`; P is unchanged. -/
def execPhp (s : State) : Host.Outcome State Fault Refusal :=
  execute .php (fun _ => pushValue fun s => imageSw s.P) s

/-- PLA (R609): `A <- pull(); setNZ(A)`. -/
def execPla (s : State) : Host.Outcome State Fault Refusal :=
  execute .pla (fun _ => pullValue setA) s

/-- PLP (R610): `P <- pull() | U`. -/
def execPlp (s : State) : Host.Outcome State Fault Refusal :=
  execute .plp (fun _ => plain do let v ← pull; updateP fun _ => loadedP v) s

/-- PHX (R611): `push(X)`. -/
def execPhx (s : State) : Host.Outcome State Fault Refusal :=
  execute .phx (fun _ => pushValue (·.X)) s

/-- PHY (R612): `push(Y)`. -/
def execPhy (s : State) : Host.Outcome State Fault Refusal :=
  execute .phy (fun _ => pushValue (·.Y)) s

/-- PLX (R613): `X <- pull(); setNZ(X)`. -/
def execPlx (s : State) : Host.Outcome State Fault Refusal :=
  execute .plx (fun _ => pullValue setX) s

/-- PLY (R614): `Y <- pull(); setNZ(Y)`. -/
def execPly (s : State) : Host.Outcome State Fault Refusal :=
  execute .ply (fun _ => pullValue setY) s

end Sys2Proof.Machine
end

