-- ==== Sys2Proof/Machine/Dispatch.lean ====
section
/-! DEFINITION. The one match from an instruction to its meaning (spec 30_encoding.md R320: "execute"). -/

namespace Sys2Proof.Machine

def exec (i : Instr) (s : State) : Host.Outcome State Fault Refusal :=
  match i with
  -- Loads and stores (41_load_store.md)
  | .lda o => Sys2Proof.Machine.execLda o s
  | .ldx o => Sys2Proof.Machine.execLdx o s
  | .ldy o => Sys2Proof.Machine.execLdy o s
  | .sta o => Sys2Proof.Machine.execSta o s
  | .stx o => Sys2Proof.Machine.execStx o s
  | .sty o => Sys2Proof.Machine.execSty o s
  | .stz o => Sys2Proof.Machine.execStz o s
  -- Register transfers, pushes and pulls (42_transfer_stack.md)
  | .tax => Sys2Proof.Machine.execTax s
  | .tay => Sys2Proof.Machine.execTay s
  | .tsx => Sys2Proof.Machine.execTsx s
  | .txa => Sys2Proof.Machine.execTxa s
  | .txs => Sys2Proof.Machine.execTxs s
  | .tya => Sys2Proof.Machine.execTya s
  | .pha => Sys2Proof.Machine.execPha s
  | .php => Sys2Proof.Machine.execPhp s
  | .pla => Sys2Proof.Machine.execPla s
  | .plp => Sys2Proof.Machine.execPlp s
  | .phx => Sys2Proof.Machine.execPhx s
  | .phy => Sys2Proof.Machine.execPhy s
  | .plx => Sys2Proof.Machine.execPlx s
  | .ply => Sys2Proof.Machine.execPly s
  -- Arithmetic (43_arithmetic.md)
  | .adc o => Sys2Proof.Machine.execAdc o s
  | .sbc o => Sys2Proof.Machine.execSbc o s
  | .cmp o => Sys2Proof.Machine.execCmp o s
  | .cpx o => Sys2Proof.Machine.execCpx o s
  | .cpy o => Sys2Proof.Machine.execCpy o s
  | .inc o => Sys2Proof.Machine.execInc o s
  | .dec o => Sys2Proof.Machine.execDec o s
  | .inx => Sys2Proof.Machine.execInx s
  | .iny => Sys2Proof.Machine.execIny s
  | .dex => Sys2Proof.Machine.execDex s
  | .dey => Sys2Proof.Machine.execDey s
  -- Logical and bit operations (44_logic_bit.md)
  | .and o => Sys2Proof.Machine.execAnd o s
  | .ora o => Sys2Proof.Machine.execOra o s
  | .eor o => Sys2Proof.Machine.execEor o s
  | .bit o => Sys2Proof.Machine.execBit o s
  | .trb o => Sys2Proof.Machine.execTrb o s
  | .tsb o => Sys2Proof.Machine.execTsb o s
  | .rmb0 zp => Sys2Proof.Machine.execRmb0 zp s
  | .rmb1 zp => Sys2Proof.Machine.execRmb1 zp s
  | .rmb2 zp => Sys2Proof.Machine.execRmb2 zp s
  | .rmb3 zp => Sys2Proof.Machine.execRmb3 zp s
  | .rmb4 zp => Sys2Proof.Machine.execRmb4 zp s
  | .rmb5 zp => Sys2Proof.Machine.execRmb5 zp s
  | .rmb6 zp => Sys2Proof.Machine.execRmb6 zp s
  | .rmb7 zp => Sys2Proof.Machine.execRmb7 zp s
  | .smb0 zp => Sys2Proof.Machine.execSmb0 zp s
  | .smb1 zp => Sys2Proof.Machine.execSmb1 zp s
  | .smb2 zp => Sys2Proof.Machine.execSmb2 zp s
  | .smb3 zp => Sys2Proof.Machine.execSmb3 zp s
  | .smb4 zp => Sys2Proof.Machine.execSmb4 zp s
  | .smb5 zp => Sys2Proof.Machine.execSmb5 zp s
  | .smb6 zp => Sys2Proof.Machine.execSmb6 zp s
  | .smb7 zp => Sys2Proof.Machine.execSmb7 zp s
  -- Shifts and rotates (45_shift_rotate.md)
  | .asl o => Sys2Proof.Machine.execAsl o s
  | .lsr o => Sys2Proof.Machine.execLsr o s
  | .rol o => Sys2Proof.Machine.execRol o s
  | .ror o => Sys2Proof.Machine.execRor o s
  -- Branches, jumps and subroutines (46_control.md)
  | .bpl disp => Sys2Proof.Machine.execBpl disp s
  | .bmi disp => Sys2Proof.Machine.execBmi disp s
  | .bvc disp => Sys2Proof.Machine.execBvc disp s
  | .bvs disp => Sys2Proof.Machine.execBvs disp s
  | .bcc disp => Sys2Proof.Machine.execBcc disp s
  | .bcs disp => Sys2Proof.Machine.execBcs disp s
  | .bne disp => Sys2Proof.Machine.execBne disp s
  | .beq disp => Sys2Proof.Machine.execBeq disp s
  | .bra disp => Sys2Proof.Machine.execBra disp s
  | .bbr0 zp disp => Sys2Proof.Machine.execBbr0 zp disp s
  | .bbr1 zp disp => Sys2Proof.Machine.execBbr1 zp disp s
  | .bbr2 zp disp => Sys2Proof.Machine.execBbr2 zp disp s
  | .bbr3 zp disp => Sys2Proof.Machine.execBbr3 zp disp s
  | .bbr4 zp disp => Sys2Proof.Machine.execBbr4 zp disp s
  | .bbr5 zp disp => Sys2Proof.Machine.execBbr5 zp disp s
  | .bbr6 zp disp => Sys2Proof.Machine.execBbr6 zp disp s
  | .bbr7 zp disp => Sys2Proof.Machine.execBbr7 zp disp s
  | .bbs0 zp disp => Sys2Proof.Machine.execBbs0 zp disp s
  | .bbs1 zp disp => Sys2Proof.Machine.execBbs1 zp disp s
  | .bbs2 zp disp => Sys2Proof.Machine.execBbs2 zp disp s
  | .bbs3 zp disp => Sys2Proof.Machine.execBbs3 zp disp s
  | .bbs4 zp disp => Sys2Proof.Machine.execBbs4 zp disp s
  | .bbs5 zp disp => Sys2Proof.Machine.execBbs5 zp disp s
  | .bbs6 zp disp => Sys2Proof.Machine.execBbs6 zp disp s
  | .bbs7 zp disp => Sys2Proof.Machine.execBbs7 zp disp s
  | .jmp o => Sys2Proof.Machine.execJmp o s
  | .jsr target => Sys2Proof.Machine.execJsr target s
  | .rts => Sys2Proof.Machine.execRts s
  -- Flag instructions, no-ops, BRK, RTI, WAI and STP (47_flags_system.md)
  | .clc => Sys2Proof.Machine.execClc s
  | .cld => Sys2Proof.Machine.execCld s
  | .cli => Sys2Proof.Machine.execCli s
  | .clv => Sys2Proof.Machine.execClv s
  | .sec => Sys2Proof.Machine.execSec s
  | .sed => Sys2Proof.Machine.execSed s
  | .sei => Sys2Proof.Machine.execSei s
  | .nop => Sys2Proof.Machine.execNop s
  | .undef op o => Sys2Proof.Machine.execUndef op o s
  | .brk => Sys2Proof.Machine.execBrk s
  | .rti => Sys2Proof.Machine.execRti s
  | .wai => Sys2Proof.Machine.execWai s
  | .stp => Sys2Proof.Machine.execStp s

end Sys2Proof.Machine
end

