-- ==== Sys2Proof/Machine/Fetch.lean ====
section
/-!
DEFINITION. Fetching an instruction's bytes (spec 30_encoding.md R320, 20_memory.md R223, R253): the opcode at PC, then
the operand bytes at increasing addresses, PC advancing past each byte read. And placing an instruction's bytes where
the next fetch reads them.
-/

namespace Sys2Proof.Machine

/-- `fetch()` (40_addressing_modes.md R400): `b <- read(PC); PC <- u16(PC + 1)`. -/
def fetch : Op Byte := do
  let s ← getState
  let b ← busRead s.PC
  setPC (s.PC + 1)
  pure b

/-- The instruction at PC; PC ends at the address after it (R320, 10_state.md R105). -/
def fetchInstruction : Op Instr := do
  let op ← fetch
  match operandBytes (tableEntry op).mode with
  | 0 => pure (instrOf op 0 0)
  | 1 => do
    let b1 ← fetch
    pure (instrOf op b1 0)
  | _ => do
    let b1 ← fetch
    let b2 ← fetch
    pure (instrOf op b1 b2)

/-- Whether an address is in a RAM or ROM device, whose bytes a program load sets. -/
def holdsBytes (devices : List Device) (addr : Word) : Bool :=
  match ownerOf devices addr.toNat with
  | some d => decide (d.kind = .ram ∨ d.kind = .rom)
  | none => false

/-- Bytes placed at an address and the addresses after it, which wrap (R422). -/
def placeBytes (init : RamInit) (m : Memory) (addr : Word) : List Byte → Memory
  | [] => m
  | b :: bs => placeBytes init (Memory.write init m addr.toNat b) (addr + 1) bs

/-- The state in which the given bytes lie at PC and the next `clock()` executes: the core running and idle, no host
call waiting, and RAM everywhere if the map has no RAM or ROM at the three addresses. -/
def placeInstruction (bytes : List Byte) (s : State) : State :=
  { s with
    mem := placeBytes s.params.ramInit s.mem s.PC bytes
    countdown := 0
    waiting := false
    stopped := false
    phase := .running
    hostCalls := []
    devices :=
      if holdsBytes s.devices s.PC && holdsBytes s.devices (s.PC + 1) && holdsBytes s.devices (s.PC + 2) then s.devices
      else [wholeRam] }

end Sys2Proof.Machine
end

