-- ==== Sys2Proof/Machine/Clock.lean ====
section
/-!
DEFINITION. The host calls of a run (spec 00_scope.md R5): `clock()` (70_reset_and_hazards.md R1301), `reset()` (R1310),
`irq()` and `nmi()` (60_exceptions.md R1210, R1211), and the bus's forwarding of the last two (R1214).
-/

namespace Sys2Proof.Machine

/-- The phases in which a call other than `reset()` and the setup calls is refused (10_state.md R141,
60_exceptions.md R1230, 20_memory.md R202). -/
def refusalOf : Phase → Option Refusal
  | .running => none
  | .constructed => some .callBeforeReset
  | .faulted => some .callAfterFault
  | .notOperational => some .busNotOperational

/-- A call that only a running core accepts. -/
def whenRunning {σ : Type} (call : State → Host.Outcome σ Fault Refusal) (s : State) : Host.Outcome σ Fault Refusal :=
  match refusalOf s.phase with
  | some r => .refused r
  | none => call s

/-- `step()` of the spec (30_encoding.md R320): fetches, decodes and executes one instruction. -/
def stepInstruction (s : State) : Host.Outcome State Fault Refusal :=
  match fetchInstruction s with
  | .ok i s' => exec i s'
  | .error e s' => .fault (e.fault s')

/-- Pairs the state of an outcome with the Boolean a call returns. -/
def returning (b : Bool) : Host.Outcome State Fault Refusal → Host.Outcome (State × Bool) Fault Refusal
  | .next s => .next (s, b)
  | .fault f => .fault f
  | .refused r => .refused r

/-- `clock()` of a running core (R1301, R1305). The Boolean is what the call returns: whether it executed an
instruction. -/
def clockRunning (s : State) : Host.Outcome (State × Bool) Fault Refusal :=
  if 0 < s.countdown then .next ({ s with countdown := s.countdown - 1 }, false)
  else if s.stopped || s.waiting then .next (s, false)
  else returning true (stepInstruction s)

/-- `clock()` (R1301). -/
def clock (s : State) : Host.Outcome (State × Bool) Fault Refusal := whenRunning clockRunning s

/-- The register values of `reset()` (R1310, 10_state.md R140) with the reset vector's target. -/
def resetRegisters (target : Word) (s : State) : State :=
  { s with
    PC := target
    P := maskU ||| maskB ||| maskI
    A := 0
    X := 0
    Y := 0
    S := 0xFD
    countdown := Config.resetCycles
    waiting := false
    stopped := false
    phase := .running }

/-- `reset()` (R1310): accepted in every phase of an operational bus; a fault of the vector read changes no register. -/
def resetCall (s : State) : Host.Outcome State Fault Refusal :=
  match s.phase with
  | .notOperational => .refused .busNotOperational
  | .constructed | .running | .faulted =>
    match read16 vectorReset s with
    | .ok target s' => .next (resetRegisters target s')
    | .error e s' => .fault (e.fault s')

/-- The interrupt entry `enter(vec)` (R1212): the shared exception entry with B clear in the pushed P, and its cycles
added to the countdown. -/
def enterInterrupt (vector : Word) : Op Unit := do
  enterException vector imageHw
  update fun s => { s with countdown := s.countdown + s.params.interruptCycles }

/-- `irq()` of a running core (R1210). -/
def irqRunning (s : State) : Host.Outcome State Fault Refusal :=
  if s.stopped then .next s
  else if flagI s.P then .next { s with waiting := false }
  else outcomeOf (enterInterrupt vectorIrq) { s with waiting := false }

/-- `irq()` (R1210). -/
def irq (s : State) : Host.Outcome State Fault Refusal := whenRunning irqRunning s

/-- `nmi()` of a running core (R1211). -/
def nmiRunning (s : State) : Host.Outcome State Fault Refusal :=
  if s.stopped then .next s
  else outcomeOf (enterInterrupt vectorNmi) { s with waiting := false }

/-- `nmi()` (R1211). -/
def nmi (s : State) : Host.Outcome State Fault Refusal := whenRunning nmiRunning s

/-- `irq()` or `nmi()` of the bus (R1214): "forward to the attached dispatcher if present, else no-op". With none attached
it is refused on a bus that is not operational (20_memory.md R202: "no run from it (refused)"). DESIGN CHOICE (log entry
19): with none attached it is refused after a fault too, and before the first `reset()` it does nothing. -/
def forward (call : State → Host.Outcome State Fault Refusal) (s : State) : Host.Outcome State Fault Refusal :=
  if s.attached then call s
  else match s.phase with
    | .constructed | .running => .next s
    | .faulted => .refused .callAfterFault
    | .notOperational => .refused .busNotOperational

end Sys2Proof.Machine
end

