-- ==== Sys2Proof/Machine/Listing.lean ====
section
/-!
DEFINITION. What the host can read: the registers (spec 10_state.md R120) and the disassembly listing
(30_encoding.md R340, R341). A text is a list of characters.
-/

namespace Sys2Proof.Machine

/-- "read access to A, X, Y, S, PC, P, remaining cycles" (R120). -/
structure HostView where
  A : Byte
  X : Byte
  Y : Byte
  S : Byte
  PC : Word
  P : Byte
  remainingCycles : Nat
  deriving DecidableEq, Repr

/-- The registers the host reads. -/
def hostView (s : State) : HostView := ⟨s.A, s.X, s.Y, s.S, s.PC, s.P, s.countdown⟩

/-- An upper-case hexadecimal digit (R341). -/
def hexDigit (n : Nat) : Char := ['0', '1', '2', '3', '4', '5', '6', '7', '8', '9', 'A', 'B', 'C', 'D', 'E', 'F'].getD n '0'

/-- `$nn` -/
def hexByte (b : Byte) : List Char := ['$', hexDigit (b.toNat / 16), hexDigit (b.toNat % 16)]

/-- `$nnnn` -/
def hexWord (w : Word) : List Char :=
  ['$', hexDigit (w.toNat / 4096), hexDigit (w.toNat / 256 % 16), hexDigit (w.toNat / 16 % 16), hexDigit (w.toNat % 16)]

/-- The mnemonic in upper case (R341); an undefined opcode prints `???`. -/
def operationText : Operation → List Char
  | .ADC => ['A', 'D', 'C']
  | .AND => ['A', 'N', 'D']
  | .ASL => ['A', 'S', 'L']
  | .BBR => ['B', 'B', 'R']
  | .BBS => ['B', 'B', 'S']
  | .BCC => ['B', 'C', 'C']
  | .BCS => ['B', 'C', 'S']
  | .BEQ => ['B', 'E', 'Q']
  | .BIT => ['B', 'I', 'T']
  | .BMI => ['B', 'M', 'I']
  | .BNE => ['B', 'N', 'E']
  | .BPL => ['B', 'P', 'L']
  | .BRA => ['B', 'R', 'A']
  | .BRK => ['B', 'R', 'K']
  | .BVC => ['B', 'V', 'C']
  | .BVS => ['B', 'V', 'S']
  | .CLC => ['C', 'L', 'C']
  | .CLD => ['C', 'L', 'D']
  | .CLI => ['C', 'L', 'I']
  | .CLV => ['C', 'L', 'V']
  | .CMP => ['C', 'M', 'P']
  | .CPX => ['C', 'P', 'X']
  | .CPY => ['C', 'P', 'Y']
  | .DEC => ['D', 'E', 'C']
  | .DEX => ['D', 'E', 'X']
  | .DEY => ['D', 'E', 'Y']
  | .EOR => ['E', 'O', 'R']
  | .INC => ['I', 'N', 'C']
  | .INX => ['I', 'N', 'X']
  | .INY => ['I', 'N', 'Y']
  | .JMP => ['J', 'M', 'P']
  | .JSR => ['J', 'S', 'R']
  | .LDA => ['L', 'D', 'A']
  | .LDX => ['L', 'D', 'X']
  | .LDY => ['L', 'D', 'Y']
  | .LSR => ['L', 'S', 'R']
  | .NOP => ['N', 'O', 'P']
  | .ORA => ['O', 'R', 'A']
  | .PHA => ['P', 'H', 'A']
  | .PHP => ['P', 'H', 'P']
  | .PHX => ['P', 'H', 'X']
  | .PHY => ['P', 'H', 'Y']
  | .PLA => ['P', 'L', 'A']
  | .PLP => ['P', 'L', 'P']
  | .PLX => ['P', 'L', 'X']
  | .PLY => ['P', 'L', 'Y']
  | .RMB => ['R', 'M', 'B']
  | .ROL => ['R', 'O', 'L']
  | .ROR => ['R', 'O', 'R']
  | .RTI => ['R', 'T', 'I']
  | .RTS => ['R', 'T', 'S']
  | .SBC => ['S', 'B', 'C']
  | .SEC => ['S', 'E', 'C']
  | .SED => ['S', 'E', 'D']
  | .SEI => ['S', 'E', 'I']
  | .SMB => ['S', 'M', 'B']
  | .STA => ['S', 'T', 'A']
  | .STP => ['S', 'T', 'P']
  | .STX => ['S', 'T', 'X']
  | .STY => ['S', 'T', 'Y']
  | .STZ => ['S', 'T', 'Z']
  | .TAX => ['T', 'A', 'X']
  | .TAY => ['T', 'A', 'Y']
  | .TRB => ['T', 'R', 'B']
  | .TSB => ['T', 'S', 'B']
  | .TSX => ['T', 'S', 'X']
  | .TXA => ['T', 'X', 'A']
  | .TXS => ['T', 'X', 'S']
  | .TYA => ['T', 'Y', 'A']
  | .WAI => ['W', 'A', 'I']
  | .UNDEF => ['?', '?', '?']

/-- The operand of an instruction at `a` with the given length, in the syntax of R303; REL and ZPREL print the branch
target (R341). -/
def operandText (a : Word) (length : Nat) : Operand → List Char
  | .imp | .stack => []
  | .acc => [' ', 'A']
  | .imm b => [' ', '#'] ++ hexByte b
  | .zp z => [' '] ++ hexByte z
  | .zpx z => [' '] ++ hexByte z ++ [',', 'X']
  | .zpy z => [' '] ++ hexByte z ++ [',', 'Y']
  | .abs w => [' '] ++ hexWord w
  | .absx w => [' '] ++ hexWord w ++ [',', 'X']
  | .absy w => [' '] ++ hexWord w ++ [',', 'Y']
  | .ind p => [' ', '('] ++ hexWord p ++ [')']
  | .indx z => [' ', '('] ++ hexByte z ++ [',', 'X', ')']
  | .indy z => [' ', '('] ++ hexByte z ++ [')', ',', 'Y']
  | .rel d => [' '] ++ hexWord (a + BitVec.ofNat 16 length + sext d)
  | .zpind z => [' ', '('] ++ hexByte z ++ [')']
  | .absindx p => [' ', '('] ++ hexWord p ++ [',', 'X', ')']
  | .zprel z d => [' '] ++ hexByte z ++ [','] ++ hexWord (a + BitVec.ofNat 16 length + sext d)

/-- The text of the instruction with these bytes at `a` (R341). RMBn, SMBn, BBRn and BBSn print their bit index. -/
def listingText (a : Word) (op b1 b2 : Byte) : List Char :=
  let e := tableEntry op
  let digit := match e.operation with
    | .RMB | .SMB | .BBR | .BBS => [hexDigit (bitIndex op)]
    | _ => []
  operationText e.operation ++ digit ++ operandText a (instrLength op) (assemble e.mode b1 b2)

/-- The operand bytes of an instruction, read from an address on; a byte it does not have is 0. -/
def readOperandBytes : Nat → Word → Op (Byte × Byte)
  | 0, _ => pure (0, 0)
  | 1, a => do
    let b1 ← busRead a
    pure (b1, 0)
  | _, a => do
    let b1 ← busRead a
    let b2 ← busRead (a + 1)
    pure (b1, b2)

/-- One pair of the listing and the address of the next (R340). The bytes are read through the bus. -/
def listEntry (a : Word) : Op ((Word × List Char) × Word) := do
  let op ← busRead a
  let b ← readOperandBytes (operandBytes (tableEntry op).mode) (a + 1)
  pure ((a, listingText a op b.1 b.2), a + BitVec.ofNat 16 (instrLength op))

/-! ## The sequence (R340) -/

/-- `list_commands(n)` started at an address: "finite (n≥0) or unbounded (n<0)". -/
def Listing.started (n : Int) (a : Word) : Listing where
  start := a
  limit := if 0 ≤ n then some n.toNat else none
  next := a
  pairs := []
  error := none

/-- "each restart begins again at that address" -/
def Listing.restarted (l : Listing) : Listing := { l with next := l.start, pairs := [], error := none }

/-- Whether the sequence has no next pair: it has given them all, or an AddressError has ended it. -/
def Listing.ended (l : Listing) : Bool := l.error.isSome || decide (l.limit = some l.pairs.length)

/-- The sequence after its next pair is read, or after the AddressError that ends it ("if a read raises AddressError the
sequence ends with that error"), and the state the reads leave. -/
def Listing.pull (l : Listing) (s : State) : Listing × State :=
  if l.ended then (l, s)
  else match listEntry l.next s with
    | .ok (pair, next) s' => ({ l with next := next, pairs := l.pairs ++ [pair] }, s')
    | .error (.addressError a) s' => ({ l with error := some a }, s')
    | .error (.writeProtectionError a) s' => ({ l with error := some a }, s')

/-- The sequence after up to `k` more pairs are read one after another. -/
def Listing.pulls : Nat → Listing → State → Listing × State
  | 0, l, s => (l, s)
  | k + 1, l, s => Listing.pulls k (l.pull s).1 (l.pull s).2

/-- `list_commands(n)` started at PC and read for its first `k` pairs, with no other call between. -/
def listCommands (n : Int) (k : Nat) (s : State) : Listing × State := (Listing.started n s.PC).pulls k s

/-! ## The calls of a run. DESIGN CHOICE (log entry 18): only a running core accepts them. -/

/-- The host starts a listing (R340: "the start address is the value of PC when the sequence is started"). -/
def startListing (n : Int) : State → Host.Outcome State Fault Refusal :=
  whenRunning fun s => .next { s with listings := s.listings ++ [Listing.started n s.PC] }

/-- A call on the `k`-th listing, which leaves the listing and the state it answers. -/
def onListing (k : Nat) (f : Listing → State → Listing × State) : State → Host.Outcome State Fault Refusal :=
  whenRunning fun s =>
    match s.listings[k]? with
    | none => .refused .badListing
    | some l =>
      let (l', s') := f l s
      .next { s' with listings := s.listings.set k l' }

/-- The host reads the next pair of a listing. The pair stands in the listing; an AddressError ends the sequence and is no
fault of the core (R340: "with no change to registers, countdown or flags"). -/
def nextOfListing (k : Nat) : State → Host.Outcome State Fault Refusal := onListing k Listing.pull

/-- The host restarts a listing. -/
def restartListing (k : Nat) : State → Host.Outcome State Fault Refusal := onListing k fun l s => (l.restarted, s)

end Sys2Proof.Machine
end

