-- ==== Sys2Proof/Machine/Setup.lean ====
section
/-!
DEFINITION. The setup calls the host makes before the first `reset()` (spec 70_reset_and_hazards.md R1312): registering
devices (20_memory.md R202, R203), loading a program image (R212), attaching the core (R208).
-/

namespace Sys2Proof.Machine

/-- A range with an address, inside the address space (20_memory.md R203). -/
def Device.fits (d : Device) : Bool := decide (0 < d.size ∧ d.base + d.size ≤ 0x10000)

/-- Whether two ranges share an address (R202). -/
def Device.overlaps (d e : Device) : Bool := decide (d.base < e.base + e.size ∧ e.base < d.base + d.size)

/-- A call that is legal only before the first `reset()` (R203). -/
def whenConstructed (call : State → Host.Outcome State Fault Refusal) (s : State) : Host.Outcome State Fault Refusal :=
  match s.phase with
  | .constructed => call s
  | .running => .refused .setupAfterReset
  | .faulted => .refused .callAfterFault
  | .notOperational => .refused .busNotOperational

/-- `register(device, base)` (R202, R203): an overlap is a ConfigurationError and leaves the bus not operational. DESIGN
CHOICE (log entry 17): a device that does not fit and also overlaps is refused, as one that does not fit. -/
def registerDevice (d : Device) : State → Host.Outcome State Fault Refusal := whenConstructed fun s =>
  if !d.fits then .refused .badDevice
  else if s.devices.any d.overlaps then .fault (.configurationError d { s with phase := .notOperational })
  else .next { s with devices := s.devices ++ [d] }

/-- Whether bytes at an offset of the backing store lie in the device's range. -/
def Device.holds (d : Device) (offset count : Nat) : Bool :=
  decide (d.base ≤ d.cell offset ∧ d.cell offset + count ≤ d.base + d.size)

/-- A program load (R212): byte k goes to index `offset + k` of the backing store of the `n`-th device. It is no bus
write, so a ROM takes it. -/
def loadProgram (n offset : Nat) (bytes : List Byte) : State → Host.Outcome State Fault Refusal := whenConstructed fun s =>
  match s.devices[n]? with
  | none => .refused .badLoad
  | some d =>
    match d.kind with
    | .external _ => .refused .badLoad
    | .ram | .rom =>
      if d.holds offset bytes.length then
        .next { s with mem := Memory.writeAll s.params.ramInit s.mem (d.cell offset) bytes }
      else .refused .badLoad

/-- Attaching the core to the bus (R208, R1312). -/
def attachCore : State → Host.Outcome State Fault Refusal := whenConstructed fun s => .next { s with attached := true }

end Sys2Proof.Machine
end

