-- ==== Sys2Proof/Machine/Step.lean ====
section
/-!
DEFINITION. One step of the machine: the next call of the host (spec 00_scope.md R6: "each host call is one atomic
transition"). The driving loop calls `clock()` when it has no other call to make (70_reset_and_hazards.md R1312; log
entry 6).
-/

namespace Sys2Proof.Machine

/-- The state of a `clock()` call, without its Boolean. -/
def clockStep (s : State) : Host.Outcome State Fault Refusal :=
  match clock s with
  | .next (s', _) => .next s'
  | .fault f => .fault f
  | .refused r => .refused r

/-- One host call. -/
def perform (c : HostCall) (s : State) : Host.Outcome State Fault Refusal :=
  match c with
  | .reset => resetCall s
  | .clock => clockStep s
  | .irq => irq s
  | .nmi => nmi s
  | .busIrq => forward irq s
  | .busNmi => forward nmi s
  | .register d => registerDevice d s
  | .load n offset bytes => loadProgram n offset bytes s
  | .attach => attachCore s
  | .listCommands n => startListing n s
  | .listNext k => nextOfListing k s
  | .listRestart k => restartListing k s

/-- One step: the first call of `hostCalls`, or `clock()` when there is none. -/
def step (s : State) : Host.Outcome State Fault Refusal :=
  match s.hostCalls with
  | [] => clockStep s
  | c :: rest => perform c { s with hostCalls := rest }

/-- The state in which the instruction with the bits `w` (bit 0 the least significant bit of the first byte, bits above
`nbits` zero) lies at PC and the next step fetches and runs it. -/
def State.withFetchWord (s : State) (nbits w : Nat) : State := placeInstruction (wordBytes nbits w) s

end Sys2Proof.Machine
end

