-- ==== Sys2Proof/Safety.lean ====
section
/-!
DEFINITION. The terms statements about whole runs use: the invariant of the machine, and when every access of an
instruction succeeds.
-/

namespace Sys2Proof.Machine

/-- The range table is legal (spec 20_memory.md R202, R203): every range fits the address space and no two overlap. -/
abbrev devicesWf (devices : List Device) : Prop :=
  (∀ d ∈ devices, d.fits = true) ∧ devices.Pairwise (fun d e => d.overlaps e = false)

/-- Every byte the memory lists belongs to a RAM or ROM device (R210, R211). -/
abbrev memoryOwned (devices : List Device) (m : Memory) : Prop :=
  ∀ c ∈ m, holdsBytes devices (BitVec.ofNat 16 c.1) = true

/-- The invariant of the machine: memory in canonical form and inside RAM and ROM devices, a legal range table, and
`P.U` set after the first reset (10_state.md R111). -/
abbrev State.Inv (s : State) : Prop :=
  Memory.wf s.params.ramInit s.mem ∧ memoryOwned s.devices s.mem ∧ devicesWf s.devices ∧
    (s.phase = .running → flagU s.P = true)

/-- The device at an address, if any, accepts writes: a RAM or an external device that is not read-only (R205). -/
def Device.writable (d : Device) : Bool := decide (d.kind = .ram ∨ d.kind = .external false)

/-- A read of the address succeeds: some device owns it (R204). -/
def readableAt (s : State) (addr : Word) : Bool := (ownerOf s.devices addr.toNat).isSome

/-- A write to the address succeeds: a device that accepts writes owns it (R205). -/
def writableAt (s : State) (addr : Word) : Bool :=
  match ownerOf s.devices addr.toNat with
  | some d => d.writable
  | none => false

/-- A RAM owns the address. -/
def ramAt (s : State) (addr : Word) : Bool :=
  match ownerOf s.devices addr.toNat with
  | some d => decide (d.kind = .ram)
  | none => false

/-- A ROM owns the address. -/
def romAt (s : State) (addr : Word) : Bool :=
  match ownerOf s.devices addr.toNat with
  | some d => decide (d.kind = .rom)
  | none => false

/-- A read-only device owns the address (R205, R211). -/
def readOnlyAt (s : State) (addr : Word) : Bool :=
  match ownerOf s.devices addr.toNat with
  | some d => decide (d.kind = .rom ∨ d.kind = .external true)
  | none => false

/-- A RAM owns every address of the stack page. -/
def stackRam (s : State) : Prop := ∀ i : Byte, ramAt s (stackAddr i) = true

/-- Some device owns every address (R1312: "The map must give a device to every address the program will touch"). -/
def allReadable (s : State) : Prop := ∀ addr : Word, readableAt s addr = true

/-- A device that accepts writes owns every address of the stack page (R1312: "to page 0x01 with a writable device"). -/
def stackWritable (s : State) : Prop := ∀ i : Byte, writableAt s (stackAddr i) = true

/-- A device that accepts writes owns the location the resolver answered, if it is an address. -/
def locWritable (s : State) (loc : Loc) : Prop := ∀ addr : Word, loc = .addr addr → writableAt s addr = true

/-- Reading the bus changes nothing but what the external devices have been asked (20_memory.md R213). -/
abbrev sameButDevices (s t : State) : Prop := t = { s with draws := t.draws, deviceLog := t.deviceLog }

/-- The calls of the listing (30_encoding.md R340). -/
def HostCall.isListing : HostCall → Bool
  | .listCommands _ | .listNext _ | .listRestart _ => true
  | .reset | .clock | .irq | .nmi | .busIrq | .busNmi | .register _ | .load _ _ _ | .attach => false

/-- Every bit of P outside the mask is the same (10_state.md R114). -/
abbrev onlyFlags (mask p p' : Byte) : Prop := p' &&& ~~~mask = p &&& ~~~mask

/-- `setNZ(v)` (00_scope.md R13) as a relation of the old P and the new: N is bit 7 of `v`, Z says `v` is 0, every other
flag is unchanged. -/
abbrev setsNZ (v p p' : Byte) : Prop :=
  flagN p' = v.getLsbD 7 ∧ flagZ p' = decide (v = 0) ∧ onlyFlags (maskN ||| maskZ) p p'

/-- Every byte of memory holds the same. -/
abbrev sameMemory (s t : State) : Prop := ∀ addr : Word, t.byteAt addr = s.byteAt addr

/-- Every byte of memory but the ones listed holds the same. -/
abbrev sameMemoryBut (changed : List Word) (s t : State) : Prop :=
  ∀ addr : Word, addr ∉ changed → t.byteAt addr = s.byteAt addr

/-- The instruction has the opcode byte `op`, and the resolver answers `r` for its operand and leaves `s1`, which
differs from `s` only in what external devices have been asked. -/
abbrev Resolves (i : Instr) (s : State) (op : Byte) (r : Resolved) (s1 : State) : Prop :=
  i.opcode? = some op ∧ resolve i.operand s = .ok r s1

/-- The instruction stores the byte `v` at `a`, leaves `p` in P and the cost `cd` in the countdown, and changes nothing
else: in a RAM the byte at `a` becomes `v` and every other byte holds the same; an external device that accepts writes
receives the write. `s1` is the state the resolver left. -/
abbrev StoresAt (i : Instr) (s s1 : State) (a : Word) (v p : Byte) (cd : Nat) : Prop :=
  (ramAt s a = true → ∃ t, exec i s = .next t ∧
    t = { s with P := p, mem := t.mem, countdown := cd, draws := s1.draws, deviceLog := s1.deviceLog } ∧
    t.byteAt a = v ∧ sameMemoryBut [a] s t) ∧
  (∀ d, ownerOf s.devices a.toNat = some d → d.kind = .external false → exec i s = .next { s with
    P := p
    countdown := cd
    draws := s1.draws
    deviceLog := s1.deviceLog ++ [⟨d.base, d.index a.toNat, some v⟩] })

/-- On a read-only device the instruction's store is a WriteProtectionError; the countdown is not loaded and P is what
the operation had made of it before the store (60_exceptions.md R1230). -/
abbrev StoreFaultsAt (i : Instr) (s s1 : State) (a : Word) (p : Byte) : Prop :=
  readOnlyAt s a = true → exec i s = .fault (.writeProtectionError a { s with
    P := p
    phase := .faulted
    draws := s1.draws
    deviceLog := s1.deviceLog })

end Sys2Proof.Machine
end

