-- ==== Sys2Proof/Certificates/Slice0/Obligations.lean ====
section
/-!
DEFINITION. The statements about the machine, for the provers. A statement about an instruction gives its next state as
an equation whose right side is the old state with the named fields replaced, so it says at once that the instruction
completes, what it computes and that nothing else changes. Where it reads an operand through the resolver it is stated
for every operand form, from `Resolves`: the resolver's answer and the state it leaves, which differs from the old one
only in what external devices have been asked.
-/

open Sys2Proof Sys2Proof.Machine

/-! ## Encoding (30_encoding.md) -/

/-- Decoding the bytes of a well-formed instruction gives it back with the bytes that follow (R300, R304, R310, R311):
no operand bit is dropped, at any value. -/
def Obligations.DecodeOfEncode : Prop :=
  ∀ (i : Instr) (rest : List Byte), i.wf = true → decode (encode i ++ rest) = .ok (i, rest)

/-- What the decoder reads is a well-formed instruction, and its encoding is the bytes read (R302, R310). -/
def Obligations.EncodeOfDecode : Prop :=
  ∀ (bytes rest : List Byte) (i : Instr), decode bytes = .ok (i, rest) → i.wf = true ∧ encode i ++ rest = bytes

/-- Every opcode byte decodes (R312), to an instruction with that byte whose length the byte alone gives (R301). -/
def Obligations.EveryOpcodeByteDecodes : Prop :=
  ∀ (op b1 b2 : Byte) (rest : List Byte), ∃ i : Instr,
    decode (op :: b1 :: b2 :: rest) = .ok (i, (op :: b1 :: b2 :: rest).drop (instrLength op)) ∧
    i.opcode? = some op ∧ 1 ≤ instrLength op ∧ instrLength op ≤ 3

/-- Words of the spec's opcode map decode to the instructions they stand for, one for each family (R310, R311). -/
def Obligations.SpecWordsDecode : Prop :=
  decode [0b10111101, 0xF0, 0x12] = .ok (.lda (.absx 0x12F0), []) ∧
  decode [0b01001000] = .ok (.pha, []) ∧
  decode [0b01110001, 0x40] = .ok (.adc (.indy 0x40), []) ∧
  decode [0b00110111, 0x12] = .ok (.rmb3 0x12, []) ∧
  decode [0b00101010] = .ok (.rol .acc, []) ∧
  decode [0b11111111, 0x12, 0xFB] = .ok (.bbs7 0x12 0xFB, []) ∧
  decode [0b01101100, 0xFF, 0x02] = .ok (.jmp (.ind 0x02FF), []) ∧
  decode [0b01011100, 0x00, 0x30] = .ok (.undef 0x5C (.abs 0x3000), [])

/-- `PAGE_PENALTY` is by default true for exactly the 24 opcodes listed, which are the sensitive operations in the modes
ABSX, ABSY and INDY; a configuration's own value replaces the default (R9); and the cost adds 1 exactly when it is true and
the mode signals a crossing (R1303, R1304). -/
def Obligations.PagePenaltyIsForSensitiveOperations : Prop :=
  (∀ op : Byte, paysPenalty Config.defaults op = true ↔ op ∈ [0x1D#8, 0x19#8, 0x11#8, 0x3D#8, 0x39#8, 0x31#8, 0x5D#8, 0x59#8, 0x51#8,
    0x7D#8, 0x79#8, 0x71#8, 0xBD#8, 0xB9#8, 0xB1#8, 0xDD#8, 0xD9#8, 0xD1#8, 0xFD#8, 0xF9#8, 0xF1#8, 0xBE#8, 0xBC#8,
    0x3C#8]) ∧
  (∀ op : Byte, paysPenalty Config.defaults op = true ↔
    ((tableEntry op).operation ∈ [.ADC, .SBC, .AND, .ORA, .EOR, .CMP, .LDA, .LDX, .LDY, .BIT] ∧
      (tableEntry op).mode ∈ [.ABSX, .ABSY, .INDY])) ∧
  (∀ (params : Params) (op : Byte), paysPenalty params op =
    match params.pagePenalties.lookup op with
    | some b => b
    | none => paysPenalty Config.defaults op) ∧
  (∀ (params : Params) (op : Byte) (extra : Bool) (adj : Nat), cost params op extra adj =
    baseCycles params op + (if extra = true ∧ paysPenalty params op = true then 1 else 0) + adj)

/-! ## Memory and bus (20_memory.md) -/

/-- In RAM a read gives the byte most recently written, and a write leaves every other byte alone (R210); the next
fetch of the address sees it (R253). -/
def Obligations.BusWriteThenRead : Prop :=
  ∀ (s : State) (a : Word) (v : Byte), s.Inv → ramAt s a = true → ∃ t, busWrite a v s = .ok () t ∧
    t = { s with mem := t.mem } ∧ busRead a t = .ok v t ∧
    ∀ b, b ≠ a → holdsBytes s.devices b = true → busRead b t = .ok (s.byteAt b) t

/-- `push(v)` writes `0x0100 + S` and then decrements S (R230); `pull()` increments S and then reads `0x0100 + S` (R231);
S wraps within page 1 and the only faults are the bus errors (R232). Over RAM the byte is stored and no other changes; a
failed push has changed nothing and a failed pull has incremented S. -/
def Obligations.StackPushAndPull : Prop :=
  ∀ (s : State) (v : Byte), s.Inv →
    (∀ i : Byte, (stackAddr i).toNat = 256 + i.toNat) ∧ (s.S - 1).toNat = (s.S.toNat + 255) % 256 ∧
    (s.S + 1).toNat = (s.S.toNat + 1) % 256 ∧
    (∀ t, busWrite (stackAddr s.S) v s = .ok () t → push v s = .ok () { t with S := s.S - 1 }) ∧
    (∀ e t, busWrite (stackAddr s.S) v s = .error e t → push v s = .error e s) ∧
    (∀ b t, busRead (stackAddr (s.S + 1)) { s with S := s.S + 1 } = .ok b t → pull s = .ok b t) ∧
    (∀ e t, busRead (stackAddr (s.S + 1)) { s with S := s.S + 1 } = .error e t →
      pull s = .error e { s with S := s.S + 1 }) ∧
    (ramAt s (stackAddr s.S) = true → ∃ t, push v s = .ok () t ∧ t = { s with S := s.S - 1, mem := t.mem } ∧
      t.byteAt (stackAddr s.S) = v ∧ sameMemoryBut [stackAddr s.S] s t) ∧
    (readOnlyAt s (stackAddr s.S) = true → push v s = .error (.writeProtectionError (stackAddr s.S)) s) ∧
    (readableAt s (stackAddr s.S) = false → push v s = .error (.addressError (stackAddr s.S)) s) ∧
    (holdsBytes s.devices (stackAddr (s.S + 1)) = true →
      pull s = .ok (s.byteAt (stackAddr (s.S + 1))) { s with S := s.S + 1 }) ∧
    (readableAt s (stackAddr (s.S + 1)) = false →
      pull s = .error (.addressError (stackAddr (s.S + 1))) { s with S := s.S + 1 })

/-! ## Addressing modes (40_addressing_modes.md) -/

/-- The effective address, the operand and the extra-cycle signal of each mode with a memory location, over RAM or ROM
at every address (R401, R404 to R413, R415 to R417, R420 to R422). -/
def Obligations.EffectiveAddresses : Prop :=
  ∀ s : State, (∀ a, holdsBytes s.devices a = true) →
    (∀ z, resolve (.zp z) s = .ok ⟨.addr (zext z), some (s.byteAt (zext z)), false, none⟩ s ∧ (zext z).toNat = z.toNat) ∧
    (∀ z, ∃ a, resolve (.zpx z) s = .ok ⟨.addr a, some (s.byteAt a), false, none⟩ s ∧
      a.toNat = (z.toNat + s.X.toNat) % 256) ∧
    (∀ z, ∃ a, resolve (.zpy z) s = .ok ⟨.addr a, some (s.byteAt a), false, none⟩ s ∧
      a.toNat = (z.toNat + s.Y.toNat) % 256) ∧
    (∀ w, resolve (.abs w) s = .ok ⟨.addr w, some (s.byteAt w), false, none⟩ s) ∧
    (∀ w, ∃ a extra, resolve (.absx w) s = .ok ⟨.addr a, some (s.byteAt a), extra, none⟩ s ∧
      a.toNat = (w.toNat + s.X.toNat) % 65536 ∧ (extra = true ↔ a.toNat / 256 ≠ w.toNat / 256)) ∧
    (∀ w, ∃ a extra, resolve (.absy w) s = .ok ⟨.addr a, some (s.byteAt a), extra, none⟩ s ∧
      a.toNat = (w.toNat + s.Y.toNat) % 65536 ∧ (extra = true ↔ a.toNat / 256 ≠ w.toNat / 256)) ∧
    (∀ p, ∃ a h, resolve (.ind p) s = .ok ⟨.addr a, some (s.byteAt a), false, none⟩ s ∧
      a.toNat = (s.byteAt h).toNat * 256 + (s.byteAt p).toNat ∧
      h.toNat = if s.params.jmpIndPageWrap.getD s.params.zeroPageBug
        then p.toNat / 256 * 256 + (p.toNat + 1) % 256 else (p.toNat + 1) % 65536) ∧
    (∀ z, ∃ a p h, resolve (.indx z) s = .ok ⟨.addr a, some (s.byteAt a), false, none⟩ s ∧
      p.toNat = (z.toNat + s.X.toNat) % 256 ∧
      a.toNat = (s.byteAt h).toNat * 256 + (s.byteAt p).toNat ∧
      h.toNat = if s.params.zeroPageBug then (p.toNat + 1) % 256 else p.toNat + 1) ∧
    (∀ z, ∃ a base h extra, resolve (.indy z) s = .ok ⟨.addr a, some (s.byteAt a), extra, none⟩ s ∧
      h.toNat = (if s.params.zeroPageBug then (z.toNat + 1) % 256 else z.toNat + 1) ∧
      base = (s.byteAt h).toNat * 256 + (s.byteAt (zext z)).toNat ∧
      a.toNat = (base + s.Y.toNat) % 65536 ∧ (extra = true ↔ a.toNat / 256 ≠ base / 256)) ∧
    (∀ z, ∃ a h, resolve (.zpind z) s = .ok ⟨.addr a, some (s.byteAt a), false, none⟩ s ∧
      a.toNat = (s.byteAt h).toNat * 256 + (s.byteAt (zext z)).toNat ∧
      h.toNat = if s.params.zeroPageBug then (z.toNat + 1) % 256 else z.toNat + 1) ∧
    (∀ w, ∃ a p, resolve (.absindx w) s = .ok ⟨.addr a, some (s.byteAt a), false, none⟩ s ∧
      p.toNat = (w.toNat + s.X.toNat) % 65536 ∧
      a.toNat = (s.byteAt (p + 1)).toNat * 256 + (s.byteAt p).toNat) ∧
    (∀ z d, resolve (.zprel z d) s = .ok ⟨.addr (zext z), some (s.byteAt (zext z)), false, some d⟩ s) ∧
    (∀ b, resolve (.imm b) s = .ok ⟨.addr (s.PC - 1), some b, false, none⟩ s)

/-- A pointer's high byte comes from the same page when the wrap applies, else from the next address, and INDX, INDY and
ZPIND read their pointer so, with `ZERO_PAGE_BUG` (R420). -/
def Obligations.PointerHighByteAddress : Prop :=
  (∀ p : Word,
    ptrhi p true = (p &&& 0xFF00) ||| zext (lo p + 1) ∧
    ptrhi p false = p + 1 ∧
    (lo p ≠ 0xFF → ptrhi p true = p + 1)) ∧
  ptrhi 0x00FF true = 0x0000 ∧ ptrhi 0x00FF false = 0x0100 ∧
  (∀ s : State, (∀ a, holdsBytes s.devices a = true) → ∀ z p a : _, p = zext (z + s.X) →
    a = word (s.byteAt (ptrhi p s.params.zeroPageBug)) (s.byteAt p) →
    resolve (.indx z) s = .ok ⟨.addr a, some (s.byteAt a), false, none⟩ s) ∧
  (∀ s : State, (∀ a, holdsBytes s.devices a = true) → ∀ z p a : _, p = zext z →
    a = word (s.byteAt (ptrhi p s.params.zeroPageBug)) (s.byteAt p) →
    resolve (.zpind z) s = .ok ⟨.addr a, some (s.byteAt a), false, none⟩ s ∧
    ∃ extra, resolve (.indy z) s = .ok ⟨.addr (a + zext s.Y), some (s.byteAt (a + zext s.Y)), extra, none⟩ s)

/-- An instruction whose operand, or a byte of the pointer to it, lies at an address no device owns is an AddressError at
that address, also a store, a jump or an undefined opcode, in every mode whose operand the resolver reads from the bus; only
external devices read before it have noticed (R204, R400, R420, R1221, R1230). In the pointer modes `p` is the address of the
pointer's low byte, and `y` what is added to the pointer. -/
def Obligations.UnownedOperandFaults : Prop :=
  ∀ (i : Instr) (s : State), i.wf = true →
    (∀ e t, resolve i.operand s = .error e t → exec i s = .fault (e.fault t) ∧ sameButDevices s t ∧
      ∃ a, e = .addressError a ∧ readableAt s a = false) ∧
    (∀ a, readableAt s a = false →
      (i.operand = .abs a ∨ (∃ w, i.operand = .absx w ∧ a = w + zext s.X) ∨ (∃ w, i.operand = .absy w ∧ a = w + zext s.Y) ∨
        ∃ z, (i.operand = .zp z ∧ a = zext z) ∨ (i.operand = .zpx z ∧ a = zext (z + s.X)) ∨
          (i.operand = .zpy z ∧ a = zext (z + s.Y)) ∨ ∃ d, i.operand = .zprel z d ∧ a = zext z) →
      exec i s = .fault (.addressError a { s with phase := .faulted })) ∧
    (∀ (p y : Word) (wrap : Bool),
      ((i.operand = .ind p ∧ wrap = s.params.jmpIndPageWrap.getD s.params.zeroPageBug ∧ y = 0) ∨
        (∃ z, i.operand = .indx z ∧ p = zext (z + s.X) ∧ wrap = s.params.zeroPageBug ∧ y = 0) ∨
        (∃ z, i.operand = .indy z ∧ p = zext z ∧ wrap = s.params.zeroPageBug ∧ y = zext s.Y) ∨
        (∃ z, i.operand = .zpind z ∧ p = zext z ∧ wrap = s.params.zeroPageBug ∧ y = 0) ∨
        ∃ w, i.operand = .absindx w ∧ p = w + zext s.X ∧ wrap = false ∧ y = 0) →
      (readableAt s p = false → exec i s = .fault (.addressError p { s with phase := .faulted })) ∧
      (∀ l t, busRead p s = .ok l t → readableAt s (ptrhi p wrap) = false →
        exec i s = .fault (.addressError (ptrhi p wrap) { t with phase := .faulted })) ∧
      (∀ l h t u, busRead p s = .ok l t → busRead (ptrhi p wrap) t = .ok h u → readableAt s (word h l + y) = false →
        exec i s = .fault (.addressError (word h l + y) { u with phase := .faulted })))

/-! ## Loads and stores (41_load_store.md) -/

/-- LDA, LDX and LDY in every mode: the register takes the operand, N and Z follow it, nothing else changes (R501, R502,
R503). -/
def Obligations.LoadsPutOperandInRegister : Prop :=
  ∀ (o : Operand) (s s1 : State) (op : Byte) (r : Resolved),
    (Resolves (.lda o) s op r s1 → ∃ m p, r.m = some m ∧ setsNZ m s.P p ∧ exec (.lda o) s = .next { s with
      A := m, P := p, countdown := cost s.params op r.extra 0, draws := s1.draws, deviceLog := s1.deviceLog }) ∧
    (Resolves (.ldx o) s op r s1 → ∃ m p, r.m = some m ∧ setsNZ m s.P p ∧ exec (.ldx o) s = .next { s with
      X := m, P := p, countdown := cost s.params op r.extra 0, draws := s1.draws, deviceLog := s1.deviceLog }) ∧
    (Resolves (.ldy o) s op r s1 → ∃ m p, r.m = some m ∧ setsNZ m s.P p ∧ exec (.ldy o) s = .next { s with
      Y := m, P := p, countdown := cost s.params op r.extra 0, draws := s1.draws, deviceLog := s1.deviceLog })

/-- STA, STX, STY and STZ in every mode: the byte at the effective address becomes the register's value (0 for STZ), no
flag and no other byte changes; on a read-only device the store is a WriteProtectionError (R504 to R507). -/
def Obligations.StoresWriteRegister : Prop :=
  ∀ (o : Operand) (s s1 : State) (op : Byte) (r : Resolved), s.Inv →
    ∀ iv ∈ [(Instr.sta o, s.A), (.stx o, s.X), (.sty o, s.Y), (.stz o, 0x00)], Resolves iv.1 s op r s1 →
      ∃ a, r.loc = .addr a ∧ StoresAt iv.1 s s1 a iv.2 s.P (cost s.params op r.extra 0) ∧
        StoreFaultsAt iv.1 s s1 a s.P

/-! ## Transfers, pushes and pulls (42_transfer_stack.md) -/

/-- The transfers: the destination takes the source, N and Z follow it, TXS writes no flag, and nothing else changes; each
is one byte and by default 2 cycles (R601 to R606). -/
def Obligations.TransfersMoveRegisters : Prop :=
  (∀ s : State,
    (∃ p, setsNZ s.A s.P p ∧ exec .tax s = .next { s with X := s.A, P := p, countdown := baseCycles s.params 0xAA }) ∧
    (∃ p, setsNZ s.A s.P p ∧ exec .tay s = .next { s with Y := s.A, P := p, countdown := baseCycles s.params 0xA8 }) ∧
    (∃ p, setsNZ s.S s.P p ∧ exec .tsx s = .next { s with X := s.S, P := p, countdown := baseCycles s.params 0xBA }) ∧
    (∃ p, setsNZ s.X s.P p ∧ exec .txa s = .next { s with A := s.X, P := p, countdown := baseCycles s.params 0x8A }) ∧
    exec .txs s = .next { s with S := s.X, countdown := baseCycles s.params 0x9A } ∧
    (∃ p, setsNZ s.Y s.P p ∧ exec .tya s = .next { s with A := s.Y, P := p, countdown := baseCycles s.params 0x98 })) ∧
  [Instr.tax, .tay, .tsx, .txa, .txs, .tya].map encode = [[0xAA], [0xA8], [0xBA], [0x8A], [0x9A], [0x98]] ∧
  ∀ op ∈ [0xAA#8, 0xA8#8, 0xBA#8, 0x8A#8, 0x9A#8, 0x98#8], baseCycles Config.defaults op = 2

/-- PHA, PHX, PHY and PHP store the register at `0x0100 + S` and decrement S; PHP pushes P with B and U set, and P itself
is unchanged (R607, R608, R611, R612, R115). On a read-only stack page, or one no device owns, they fault and nothing has
changed (R232). -/
def Obligations.PushesStoreOnStack : Prop :=
  ∀ s : State, s.Inv →
    ∀ x ∈ [(Instr.pha, s.A, 0x48#8), (.php, s.P ||| 0x30, 0x08#8), (.phx, s.X, 0xDA#8), (.phy, s.Y, 0x5A#8)],
      (ramAt s (stackAddr s.S) = true → ∃ t, exec x.1 s = .next t ∧
        t = { s with S := s.S - 1, mem := t.mem, countdown := baseCycles s.params x.2.2 } ∧
        t.byteAt (stackAddr s.S) = x.2.1 ∧ sameMemoryBut [stackAddr s.S] s t) ∧
      (∀ d, ownerOf s.devices (stackAddr s.S).toNat = some d → d.kind = .external false → exec x.1 s = .next { s with
        S := s.S - 1
        countdown := baseCycles s.params x.2.2
        deviceLog := s.deviceLog ++ [⟨d.base, d.index (stackAddr s.S).toNat, some x.2.1⟩] }) ∧
      (readOnlyAt s (stackAddr s.S) = true →
        exec x.1 s = .fault (.writeProtectionError (stackAddr s.S) { s with phase := .faulted })) ∧
      (readableAt s (stackAddr s.S) = false →
        exec x.1 s = .fault (.addressError (stackAddr s.S) { s with phase := .faulted }))

/-- PLA, PLX and PLY load the register from the stack and set N and Z; PLP loads P and forces U (R609, R610, R613,
R614). On a stack page no device owns they fault, and S is already incremented (R232, R1230). -/
def Obligations.PullsLoadFromStack : Prop :=
  ∀ s : State,
    (holdsBytes s.devices (stackAddr (s.S + 1)) = true →
      ∃ v p, v = s.byteAt (stackAddr (s.S + 1)) ∧ setsNZ v s.P p ∧
        exec .pla s = .next { s with A := v, P := p, S := s.S + 1, countdown := baseCycles s.params 0x68 } ∧
        exec .plx s = .next { s with X := v, P := p, S := s.S + 1, countdown := baseCycles s.params 0xFA } ∧
        exec .ply s = .next { s with Y := v, P := p, S := s.S + 1, countdown := baseCycles s.params 0x7A } ∧
        exec .plp s = .next { s with P := v ||| 0x20, S := s.S + 1, countdown := baseCycles s.params 0x28 }) ∧
    (readableAt s (stackAddr (s.S + 1)) = false → ∀ i ∈ [Instr.pla, .plx, .ply, .plp],
      exec i s = .fault (.addressError (stackAddr (s.S + 1)) { s with S := s.S + 1, phase := .faulted }))

/-! ## Arithmetic (43_arithmetic.md) -/

/-- Binary ADC in every mode: the sum modulo 256, C the carry out, V the signed overflow, N and Z of the result (R701,
R710). -/
def Obligations.BinaryAddition : Prop :=
  ∀ (o : Operand) (s s1 : State) (op : Byte) (r : Resolved), Resolves (.adc o) s op r s1 → flagD s.P = false →
    ∃ m a p, r.m = some m ∧ exec (.adc o) s = .next { s with
        A := a, P := p, countdown := cost s.params op r.extra 0, draws := s1.draws, deviceLog := s1.deviceLog } ∧
      a.toNat = (s.A.toNat + m.toNat + carryIn (flagC s.P)) % 256 ∧
      flagC p = decide (256 ≤ s.A.toNat + m.toNat + carryIn (flagC s.P)) ∧
      flagV p = decide (s.A.toInt + m.toInt + carryIn (flagC s.P) < -128 ∨
        127 < s.A.toInt + m.toInt + carryIn (flagC s.P)) ∧
      flagN p = a.getLsbD 7 ∧ flagZ p = decide (a = 0) ∧ onlyFlags (maskN ||| maskV ||| maskZ ||| maskC) s.P p

/-- Binary SBC in every mode: `A - m - (1 - C)` modulo 256, C for no borrow, V the signed overflow, N and Z of the
result (R702, R711). -/
def Obligations.BinarySubtraction : Prop :=
  ∀ (o : Operand) (s s1 : State) (op : Byte) (r : Resolved), Resolves (.sbc o) s op r s1 → flagD s.P = false →
    ∃ m a p, r.m = some m ∧ exec (.sbc o) s = .next { s with
        A := a, P := p, countdown := cost s.params op r.extra 0, draws := s1.draws, deviceLog := s1.deviceLog } ∧
      a.toNat = (s.A.toNat + 256 - m.toNat - (1 - carryIn (flagC s.P))) % 256 ∧
      flagC p = decide (m.toNat + (1 - carryIn (flagC s.P)) ≤ s.A.toNat) ∧
      flagV p = decide (s.A.toInt - m.toInt - (1 - carryIn (flagC s.P) : Nat) < -128 ∨
        127 < s.A.toInt - m.toInt - (1 - carryIn (flagC s.P) : Nat)) ∧
      flagN p = a.getLsbD 7 ∧ flagZ p = decide (a = 0) ∧ onlyFlags (maskN ||| maskV ||| maskZ ||| maskC) s.P p

/-- Decimal ADC in every mode and for every byte, digits or not: the low digit corrected first, V from the intermediate
read as signed, C and the result from the corrected sum, N and Z as `DECIMAL_NZ` says (R703, R705, R706, R710). -/
def Obligations.DecimalAddition : Prop :=
  ∀ (o : Operand) (s s1 : State) (op : Byte) (r : Resolved), Resolves (.adc o) s op r s1 → flagD s.P = true →
    ∃ (m a p : Byte) (c l al t t' : Nat), r.m = some m ∧ exec (.adc o) s = .next { s with
        A := a, P := p, countdown := cost s.params op r.extra 0, draws := s1.draws, deviceLog := s1.deviceLog } ∧
      c = carryIn (flagC s.P) ∧
      l = s.A.toNat % 16 + m.toNat % 16 + c ∧
      al = (if l < 10 then l else (l + 6) % 16 + 16) ∧
      t = s.A.toNat / 16 * 16 + m.toNat / 16 * 16 + al ∧
      t' = (if t < 0xA0 then t else t + 0x60) ∧
      a.toNat = t' % 256 ∧
      flagC p = decide (256 ≤ t') ∧
      flagV p = decide ((s.A &&& 0xF0).toInt + (m &&& 0xF0).toInt + al < -128 ∨
        127 < (s.A &&& 0xF0).toInt + (m &&& 0xF0).toInt + al) ∧
      (s.params.decimalNZ = .final → flagN p = a.getLsbD 7 ∧ flagZ p = decide (a = 0)) ∧
      (s.params.decimalNZ = .nmos → flagN p = t.testBit 7 ∧
        flagZ p = decide ((s.A.toNat + m.toNat + c) % 256 = 0)) ∧
      onlyFlags (maskN ||| maskV ||| maskZ ||| maskC) s.P p

/-- Decimal SBC in every mode and for every byte: the digits subtracted with borrow correction, C and V as binary
subtraction, N and Z as `DECIMAL_NZ` says (R704, R705, R706, R711). The residue of a negative low digit is log entry 9. -/
def Obligations.DecimalSubtraction : Prop :=
  ∀ (o : Operand) (s s1 : State) (op : Byte) (r : Resolved), Resolves (.sbc o) s op r s1 → flagD s.P = true →
    ∃ (m a p : Byte) (l al t t' : Int) (c b : Nat), r.m = some m ∧ exec (.sbc o) s = .next { s with
        A := a, P := p, countdown := cost s.params op r.extra 0, draws := s1.draws, deviceLog := s1.deviceLog } ∧
      c = carryIn (flagC s.P) ∧
      b = (s.A.toNat + 256 - m.toNat - (1 - c)) % 256 ∧
      l = (s.A.toNat % 16 : Nat) - (m.toNat % 16 : Nat) + c - 1 ∧
      al = (if 0 ≤ l then l else (l - 6) % 16 - 16) ∧
      t = (s.A.toNat / 16 * 16 : Nat) - (m.toNat / 16 * 16 : Nat) + al ∧
      t' = (if 0 ≤ t then t else t - 0x60) ∧
      (a.toNat : Int) = t' % 256 ∧
      flagC p = decide (m.toNat + (1 - c) ≤ s.A.toNat) ∧
      flagV p = decide (s.A.toInt - m.toInt - (1 - c : Nat) < -128 ∨ 127 < s.A.toInt - m.toInt - (1 - c : Nat)) ∧
      (s.params.decimalNZ = .final → flagN p = a.getLsbD 7 ∧ flagZ p = decide (a = 0)) ∧
      (s.params.decimalNZ = .nmos → flagN p = b.testBit 7 ∧ flagZ p = decide (b = 0)) ∧
      onlyFlags (maskN ||| maskV ||| maskZ ||| maskC) s.P p

/-- On operands that are two decimal digits each, decimal ADC and SBC compute the decimal sum and difference modulo 100,
with C the decimal carry and the decimal no-borrow (92_eei_decisions.md D17, D19: what the algorithms are for). -/
def Obligations.DecimalArithmeticIsDecimal : Prop :=
  ∀ (mode : DecimalNZ) (x y : Nat) (a m p : Byte), x < 100 → y < 100 →
    a.toNat = x / 10 * 16 + x % 10 → m.toNat = y / 10 * 16 + y % 10 → flagD p = true →
    (∃ z, z = (x + y + carryIn (flagC p)) % 100 ∧ (adcAlu mode a m p).1.toNat = z / 10 * 16 + z % 10 ∧
      flagC (adcAlu mode a m p).2 = decide (100 ≤ x + y + carryIn (flagC p))) ∧
    (∃ z, z = (x + 100 - y - (1 - carryIn (flagC p))) % 100 ∧ (sbcAlu mode a m p).1.toNat = z / 10 * 16 + z % 10 ∧
      flagC (sbcAlu mode a m p).2 = decide (y + (1 - carryIn (flagC p)) ≤ x))

/-- CMP, CPX and CPY in every mode: C for register at least operand, Z for equal, N of the wrapped difference, nothing
else (R707, R712, R713, R714). -/
def Obligations.ComparesSetFlags : Prop :=
  ∀ (o : Operand) (s s1 : State) (op : Byte) (r : Resolved),
    ∀ iv ∈ [(Instr.cmp o, s.A), (.cpx o, s.X), (.cpy o, s.Y)], Resolves iv.1 s op r s1 →
      ∃ m p, r.m = some m ∧ exec iv.1 s = .next { s with
          P := p, countdown := cost s.params op r.extra 0, draws := s1.draws, deviceLog := s1.deviceLog } ∧
        flagC p = decide (m.toNat ≤ iv.2.toNat) ∧ flagZ p = decide (iv.2 = m) ∧
        flagN p = decide (128 ≤ (iv.2.toNat + 256 - m.toNat) % 256) ∧ onlyFlags (maskN ||| maskZ ||| maskC) s.P p

/-- INC and DEC in every mode, memory and accumulator: the operand plus or minus 1 modulo 256 is stored, N and Z follow
it, whatever `P.D` is (R715, R716). -/
def Obligations.IncrementAndDecrementInPlace : Prop :=
  ∀ (o : Operand) (s s1 : State) (op : Byte) (r : Resolved), s.Inv →
    ∀ x ∈ [(Instr.inc o, 1), (.dec o, 255)], Resolves x.1 s op r s1 →
      ∃ m v p, r.m = some m ∧ v.toNat = (m.toNat + x.2) % 256 ∧ setsNZ v s.P p ∧
        ((r.loc = .acc ∧ m = s.A ∧
            exec x.1 s = .next { s with A := v, P := p, countdown := cost s.params op r.extra 0 }) ∨
          ∃ a, r.loc = .addr a ∧ StoresAt x.1 s s1 a v p (cost s.params op r.extra 0) ∧ StoreFaultsAt x.1 s s1 a s.P)

/-- INX, INY, DEX and DEY: the register plus or minus 1 modulo 256, N and Z of it, nothing else; each is one byte and by
default 2 cycles (R717 to R720). -/
def Obligations.IndexRegistersStep : Prop :=
  (∀ s : State,
    (∃ v p, v.toNat = (s.X.toNat + 1) % 256 ∧ setsNZ v s.P p ∧
      exec .inx s = .next { s with X := v, P := p, countdown := baseCycles s.params 0xE8 }) ∧
    (∃ v p, v.toNat = (s.Y.toNat + 1) % 256 ∧ setsNZ v s.P p ∧
      exec .iny s = .next { s with Y := v, P := p, countdown := baseCycles s.params 0xC8 }) ∧
    (∃ v p, v.toNat = (s.X.toNat + 255) % 256 ∧ setsNZ v s.P p ∧
      exec .dex s = .next { s with X := v, P := p, countdown := baseCycles s.params 0xCA }) ∧
    (∃ v p, v.toNat = (s.Y.toNat + 255) % 256 ∧ setsNZ v s.P p ∧
      exec .dey s = .next { s with Y := v, P := p, countdown := baseCycles s.params 0x88 })) ∧
  [Instr.inx, .iny, .dex, .dey].map encode = [[0xE8], [0xC8], [0xCA], [0x88]] ∧
  ∀ op ∈ [0xE8#8, 0xC8#8, 0xCA#8, 0x88#8], baseCycles Config.defaults op = 2

/-! ## Logical and bit operations (44_logic_bit.md) -/

/-- AND, ORA and EOR in every mode (R801, R802, R803). -/
def Obligations.LogicIntoAccumulator : Prop :=
  ∀ (o : Operand) (s s1 : State) (op : Byte) (r : Resolved) (m : Byte), r.m = some m →
    ∀ iv ∈ [(Instr.and o, s.A &&& m), (.ora o, s.A ||| m), (.eor o, s.A ^^^ m)], Resolves iv.1 s op r s1 →
      ∃ p, setsNZ iv.2 s.P p ∧ exec iv.1 s = .next { s with
        A := iv.2, P := p, countdown := cost s.params op r.extra 0, draws := s1.draws, deviceLog := s1.deviceLog }

/-- BIT in every mode: Z of `A & m`; N and V are bits 7 and 6 of the operand, and unchanged in the immediate form
(R804). -/
def Obligations.BitTestsOperand : Prop :=
  ∀ (o : Operand) (s s1 : State) (op : Byte) (r : Resolved), Resolves (.bit o) s op r s1 →
    ∃ m p, r.m = some m ∧ exec (.bit o) s = .next { s with
        P := p, countdown := cost s.params op r.extra 0, draws := s1.draws, deviceLog := s1.deviceLog } ∧
      flagZ p = decide (s.A &&& m = 0) ∧
      (o.mode = .IMM → onlyFlags maskZ s.P p) ∧
      (o.mode ≠ .IMM → flagN p = m.getLsbD 7 ∧ flagV p = m.getLsbD 6 ∧ onlyFlags (maskN ||| maskV ||| maskZ) s.P p)

/-- TRB and TSB: Z of `A & m` before the write, and `m & ~A` or `m | A` written; Z is set also when the write fails
(R805, R806, R1230). -/
def Obligations.TestAndResetOrSetBits : Prop :=
  ∀ (o : Operand) (s s1 : State) (op : Byte) (r : Resolved) (m : Byte), s.Inv → r.m = some m →
    ∀ iv ∈ [(Instr.trb o, m &&& ~~~s.A), (.tsb o, m ||| s.A)], Resolves iv.1 s op r s1 →
      ∃ a p, r.loc = .addr a ∧ flagZ p = decide (s.A &&& m = 0) ∧ onlyFlags maskZ s.P p ∧
        StoresAt iv.1 s s1 a iv.2 p (cost s.params op r.extra 0) ∧ StoreFaultsAt iv.1 s s1 a p

/-- RMB0 to RMB7: the zero-page byte with bit n cleared, no flag (R807). -/
def Obligations.ResetMemoryBit : Prop :=
  ∀ (z : Byte) (s s1 : State) (op : Byte) (r : Resolved), s.Inv →
    ∀ x ∈ [(Instr.rmb0 z, 0), (.rmb1 z, 1), (.rmb2 z, 2), (.rmb3 z, 3), (.rmb4 z, 4), (.rmb5 z, 5), (.rmb6 z, 6),
      (.rmb7 z, 7)], Resolves x.1 s op r s1 →
      ∃ m v, r.m = some m ∧ (∀ k < 8, v.getLsbD k = if k = x.2 then false else m.getLsbD k) ∧
        StoresAt x.1 s s1 (zext z) v s.P (baseCycles s.params op) ∧ StoreFaultsAt x.1 s s1 (zext z) s.P

/-- SMB0 to SMB7: the zero-page byte with bit n set, no flag (R808). -/
def Obligations.SetMemoryBit : Prop :=
  ∀ (z : Byte) (s s1 : State) (op : Byte) (r : Resolved), s.Inv →
    ∀ x ∈ [(Instr.smb0 z, 0), (.smb1 z, 1), (.smb2 z, 2), (.smb3 z, 3), (.smb4 z, 4), (.smb5 z, 5), (.smb6 z, 6),
      (.smb7 z, 7)], Resolves x.1 s op r s1 →
      ∃ m v, r.m = some m ∧ (∀ k < 8, v.getLsbD k = if k = x.2 then true else m.getLsbD k) ∧
        StoresAt x.1 s s1 (zext z) v s.P (baseCycles s.params op) ∧ StoreFaultsAt x.1 s s1 (zext z) s.P

/-! ## Shifts and rotates (45_shift_rotate.md) -/

/-- ASL, LSR, ROL and ROR in every mode, memory and accumulator: the result as a number, C the bit that leaves, N and Z
of the result; when the store fails C is already written (R901 to R904, R1230). -/
def Obligations.ShiftsAndRotates : Prop :=
  ∀ (o : Operand) (s s1 : State) (op : Byte) (r : Resolved) (m : Byte), s.Inv → r.m = some m →
    ∀ x ∈ [(Instr.asl o, 2 * m.toNat % 256, m.getLsbD 7), (.lsr o, m.toNat / 2, m.getLsbD 0),
      (.rol o, (2 * m.toNat + carryIn (flagC s.P)) % 256, m.getLsbD 7),
      (.ror o, m.toNat / 2 + 128 * carryIn (flagC s.P), m.getLsbD 0)], Resolves x.1 s op r s1 →
      ∃ v p q, v.toNat = x.2.1 ∧
        flagC p = x.2.2 ∧ flagN p = v.getLsbD 7 ∧ flagZ p = decide (v = 0) ∧
        onlyFlags (maskN ||| maskZ ||| maskC) s.P p ∧ flagC q = x.2.2 ∧ onlyFlags maskC s.P q ∧
        ((r.loc = .acc ∧ m = s.A ∧
            exec x.1 s = .next { s with A := v, P := p, countdown := cost s.params op r.extra 0 }) ∨
          ∃ a, r.loc = .addr a ∧ StoresAt x.1 s s1 a v p (cost s.params op r.extra 0) ∧ StoreFaultsAt x.1 s s1 a q)

/-! ## Branches, jumps and subroutines (46_control.md) -/

/-- The branches on a flag and BRA: taken, PC is the target and the cost is base + 1, or base + 2 when the page of the
target is not the page of PC after the instruction; not taken, only the countdown changes (R1000, R1002, R1010 to
R1018). -/
def Obligations.BranchesOnFlags : Prop :=
  ∀ (d : Byte) (s : State),
    ∀ x ∈ [(Instr.bpl d, !flagN s.P, 0x10#8), (.bmi d, flagN s.P, 0x30#8), (.bvc d, !flagV s.P, 0x50#8),
      (.bvs d, flagV s.P, 0x70#8), (.bcc d, !flagC s.P, 0x90#8), (.bcs d, flagC s.P, 0xB0#8),
      (.bne d, !flagZ s.P, 0xD0#8), (.beq d, flagZ s.P, 0xF0#8), (.bra d, true, 0x80#8)],
      ∃ target : Word, (target.toNat : Int) = (s.PC.toNat + d.toInt) % 65536 ∧
        exec x.1 s = .next (if x.2.1 then { s with
            PC := target
            countdown := baseCycles s.params x.2.2 + (if target.toNat / 256 = s.PC.toNat / 256 then 1 else 2) }
          else { s with countdown := baseCycles s.params x.2.2 })

/-- BBR0 to BBR7 and BBS0 to BBS7: the branch on bit n of the zero-page byte (R1019, R1020). -/
def Obligations.BranchesOnBits : Prop :=
  ∀ (z d : Byte) (s s1 : State) (op : Byte) (r : Resolved),
    ∀ x ∈ [(Instr.bbr0 z d, 0, false), (.bbr1 z d, 1, false), (.bbr2 z d, 2, false), (.bbr3 z d, 3, false),
      (.bbr4 z d, 4, false), (.bbr5 z d, 5, false), (.bbr6 z d, 6, false), (.bbr7 z d, 7, false),
      (.bbs0 z d, 0, true), (.bbs1 z d, 1, true), (.bbs2 z d, 2, true), (.bbs3 z d, 3, true), (.bbs4 z d, 4, true),
      (.bbs5 z d, 5, true), (.bbs6 z d, 6, true), (.bbs7 z d, 7, true)], Resolves x.1 s op r s1 →
      ∃ (m : Byte) (target : Word), r.m = some m ∧ (target.toNat : Int) = (s.PC.toNat + d.toInt) % 65536 ∧
        exec x.1 s = .next (if m.getLsbD x.2.1 = x.2.2 then { s with
            PC := target
            countdown := baseCycles s.params op + (if target.toNat / 256 = s.PC.toNat / 256 then 1 else 2)
            draws := s1.draws
            deviceLog := s1.deviceLog }
          else { s with
            countdown := baseCycles s.params op
            draws := s1.draws
            deviceLog := s1.deviceLog })

/-- JMP in every mode: PC is the effective address, and nothing else changes (R1021). -/
def Obligations.JumpSetsPc : Prop :=
  ∀ (o : Operand) (s s1 : State) (op : Byte) (r : Resolved), Resolves (.jmp o) s op r s1 →
    ∃ a, r.loc = .addr a ∧ exec (.jmp o) s = .next { s with
      PC := a, countdown := baseCycles s.params op, draws := s1.draws, deviceLog := s1.deviceLog }

/-- JSR pushes PC - 1, the high byte first, and jumps; when a push meets a read-only device the pushes before it stand and
PC is unchanged (R1022, R1230). -/
def Obligations.JsrPushesReturnAddress : Prop :=
  ∀ (target : Word) (s s1 : State) (op : Byte) (r : Resolved), s.Inv → Resolves (.jsr target) s op r s1 →
    (ramAt s (stackAddr s.S) = true → ramAt s (stackAddr (s.S - 1)) = true →
      ∃ t, exec (.jsr target) s = .next t ∧
        t = { s with
          PC := target
          S := s.S - 2
          mem := t.mem
          countdown := baseCycles s.params 0x20
          draws := s1.draws
          deviceLog := s1.deviceLog } ∧
        t.byteAt (stackAddr s.S) = hi (s.PC - 1) ∧ t.byteAt (stackAddr (s.S - 1)) = lo (s.PC - 1) ∧
        sameMemoryBut [stackAddr s.S, stackAddr (s.S - 1)] s t) ∧
    (readOnlyAt s (stackAddr s.S) = true → exec (.jsr target) s = .fault (.writeProtectionError (stackAddr s.S)
      { s with phase := .faulted, draws := s1.draws, deviceLog := s1.deviceLog })) ∧
    (ramAt s (stackAddr s.S) = true → readOnlyAt s (stackAddr (s.S - 1)) = true →
      ∃ t, exec (.jsr target) s = .fault (.writeProtectionError (stackAddr (s.S - 1)) t) ∧
        t = { s with
          S := s.S - 1
          mem := t.mem
          phase := .faulted
          draws := s1.draws
          deviceLog := s1.deviceLog } ∧
        t.byteAt (stackAddr s.S) = hi (s.PC - 1) ∧ sameMemoryBut [stackAddr s.S] s t)

/-- RTS pulls the low byte, then the high byte, and returns to the address after; a pull no device answers is an
AddressError (R1023, R1230). -/
def Obligations.RtsReturnsPastAddress : Prop :=
  ∀ s : State,
    (holdsBytes s.devices (stackAddr (s.S + 1)) = true → holdsBytes s.devices (stackAddr (s.S + 2)) = true →
      ∃ pc : Word,
        pc.toNat = ((s.byteAt (stackAddr (s.S + 2))).toNat * 256 + (s.byteAt (stackAddr (s.S + 1))).toNat + 1) % 65536 ∧
        exec .rts s = .next { s with PC := pc, S := s.S + 2, countdown := baseCycles s.params 0x60 }) ∧
    (readableAt s (stackAddr (s.S + 1)) = false →
      exec .rts s = .fault (.addressError (stackAddr (s.S + 1)) { s with S := s.S + 1, phase := .faulted }))

/-- RTS after JSR with the stack page in RAM: PC is the address after the JSR and S is what it was (R1022, R1023). -/
def Obligations.RtsUndoesJsr : Prop :=
  ∀ (target : Word) (s t u : State), s.Inv → stackRam s → exec (.jsr target) s = .next t → exec .rts t = .next u →
    u.PC = s.PC ∧ u.S = s.S ∧ u.P = s.P ∧ u.A = s.A ∧ u.X = s.X ∧ u.Y = s.Y

/-! ## Flag instructions, no-ops, BRK, RTI, WAI and STP (47_flags_system.md) -/

/-- CLC, CLD, CLI, CLV, SEC, SED and SEI write their one bit of P and nothing else; each is one byte and by default 2
cycles (R1101 to R1107; CLI and SEI with the spec's decision D33). -/
def Obligations.FlagInstructionsWriteOneBit : Prop :=
  (∀ s : State,
    exec .clc s = .next { s with P := s.P &&& 0xFE, countdown := baseCycles s.params 0x18 } ∧
    exec .cld s = .next { s with P := s.P &&& 0xF7, countdown := baseCycles s.params 0xD8 } ∧
    exec .cli s = .next { s with P := s.P &&& 0xFB, countdown := baseCycles s.params 0x58 } ∧
    exec .clv s = .next { s with P := s.P &&& 0xBF, countdown := baseCycles s.params 0xB8 } ∧
    exec .sec s = .next { s with P := s.P ||| 0x01, countdown := baseCycles s.params 0x38 } ∧
    exec .sed s = .next { s with P := s.P ||| 0x08, countdown := baseCycles s.params 0xF8 } ∧
    exec .sei s = .next { s with P := s.P ||| 0x04, countdown := baseCycles s.params 0x78 }) ∧
  [Instr.clc, .cld, .cli, .clv, .sec, .sed, .sei].map encode = [[0x18], [0xD8], [0x58], [0xB8], [0x38], [0xF8], [0x78]] ∧
  ∀ op ∈ [0x18#8, 0xD8#8, 0x58#8, 0xB8#8, 0x38#8, 0xF8#8, 0x78#8], baseCycles Config.defaults op = 2

/-- NOP changes nothing but the countdown, WAI and STP set their one bit; each is one byte, by default 2, 3 and 3 cycles
(R1108, R1112, R1113: the instructions' own effect; WAI and STP by the spec's decisions D23, D24, D38). -/
def Obligations.NopWaiAndStp : Prop :=
  (∀ s : State,
    exec .nop s = .next { s with countdown := baseCycles s.params 0xEA } ∧
    exec .wai s = .next { s with waiting := true, countdown := baseCycles s.params 0xCB } ∧
    exec .stp s = .next { s with stopped := true, countdown := baseCycles s.params 0xDB }) ∧
  [Instr.nop, .wai, .stp].map encode = [[0xEA], [0xCB], [0xDB]] ∧
  [0xEA#8, 0xCB#8, 0xDB#8].map (baseCycles Config.defaults) = [2, 3, 3]

/-- An undefined opcode appends its record, with the address of the opcode byte, and changes no register, flag or byte
of memory; it never pays a page penalty (R1109). -/
def Obligations.UndefinedOpcodeRecords : Prop :=
  ∀ (b : Byte) (o : Operand) (s s1 : State) (op : Byte) (r : Resolved), Resolves (.undef b o) s op r s1 →
    op = b ∧ exec (.undef b o) s = .next { s with
      diag := s.diag ++ [.unsupportedOpcode b (s.PC - BitVec.ofNat 16 (instrLength b))]
      countdown := baseCycles s.params b
      draws := s1.draws
      deviceLog := s1.deviceLog }

/-- BRK pushes the address past its padding byte, high byte first, and P with B and U set, sets I, clears D and loads PC
from 0xFFFE (R1110, R115). On a read-only stack page it is a WriteProtectionError with only PC moved; on a vector no device
owns it is an AddressError, and the pushes and the changes of I and D stand (R1230). -/
def Obligations.BrkTakesException : Prop :=
  ∀ s : State, s.Inv →
    (stackRam s → holdsBytes s.devices 0xFFFE = true → holdsBytes s.devices 0xFFFF = true →
      ∃ t, exec .brk s = .next t ∧
        t = { s with
          PC := word (s.byteAt 0xFFFF) (s.byteAt 0xFFFE)
          S := s.S - 3
          P := t.P
          mem := t.mem
          countdown := baseCycles s.params 0x00 } ∧
        flagI t.P = true ∧ flagD t.P = false ∧ onlyFlags (maskI ||| maskD) s.P t.P ∧
        t.byteAt (stackAddr s.S) = hi (s.PC + 1) ∧ t.byteAt (stackAddr (s.S - 1)) = lo (s.PC + 1) ∧
        t.byteAt (stackAddr (s.S - 2)) = s.P ||| 0x30 ∧
        sameMemoryBut [stackAddr s.S, stackAddr (s.S - 1), stackAddr (s.S - 2)] s t) ∧
    (readOnlyAt s (stackAddr s.S) = true → exec .brk s = .fault (.writeProtectionError (stackAddr s.S)
      { s with PC := s.PC + 1, phase := .faulted })) ∧
    (stackRam s → readableAt s 0xFFFE = false → ∃ t, exec .brk s = .fault (.addressError 0xFFFE t) ∧
      t = { s with PC := s.PC + 1, S := s.S - 3, P := t.P, mem := t.mem, phase := .faulted } ∧
      flagI t.P = true ∧ flagD t.P = false ∧ onlyFlags (maskI ||| maskD) s.P t.P ∧
      t.byteAt (stackAddr s.S) = hi (s.PC + 1) ∧ t.byteAt (stackAddr (s.S - 1)) = lo (s.PC + 1) ∧
      t.byteAt (stackAddr (s.S - 2)) = s.P ||| 0x30 ∧
      sameMemoryBut [stackAddr s.S, stackAddr (s.S - 1), stackAddr (s.S - 2)] s t)

/-- RTI pulls P with U forced, then PC low, then PC high; a pull no device answers is an AddressError (R1111, R1230). -/
def Obligations.RtiRestoresStatusAndPc : Prop :=
  ∀ s : State,
    ((∀ k ∈ [1#8, 2#8, 3#8], holdsBytes s.devices (stackAddr (s.S + k)) = true) →
      exec .rti s = .next { s with
        P := s.byteAt (stackAddr (s.S + 1)) ||| 0x20
        PC := word (s.byteAt (stackAddr (s.S + 3))) (s.byteAt (stackAddr (s.S + 2)))
        S := s.S + 3
        countdown := baseCycles s.params 0x40 }) ∧
    (readableAt s (stackAddr (s.S + 1)) = false →
      exec .rti s = .fault (.addressError (stackAddr (s.S + 1)) { s with S := s.S + 1, phase := .faulted }))

/-- "BRK followed by RTI restores PC and P (apart from documented B-flag handling)": PC past the padding byte, S, and P
with B and U set (R1111, R1232); after an `nmi()`, or an `irq()` that is taken, RTI returns to the interrupted instruction
with B clear and U set. -/
def Obligations.RtiUndoesExceptionEntry : Prop :=
  ∀ s t u : State, s.Inv → stackRam s → exec .rti t = .next u →
    (exec .brk s = .next t →
      u.PC = s.PC + 1 ∧ u.S = s.S ∧ u.P = s.P ||| 0x30 ∧ u.A = s.A ∧ u.X = s.X ∧ u.Y = s.Y) ∧
    (s.phase = .running → s.stopped = false → nmi s = .next t ∨ (flagI s.P = false ∧ irq s = .next t) →
      u.PC = s.PC ∧ u.S = s.S ∧ u.P = (s.P ||| 0x20) &&& 0xEF ∧ u.A = s.A ∧ u.X = s.X ∧ u.Y = s.Y)

/-! ## The step and the clock (30_encoding.md R320, 70_reset_and_hazards.md) -/

/-- When the bytes at PC, in RAM or ROM, decode to an instruction, the step of an idle running core is exec of it at the
state with PC past its bytes (R320, R105); and in general it is exec of what the fetch reads. -/
def Obligations.StepRunsDecodedInstruction : Prop :=
  ∀ (s : State), s.hostCalls = [] → s.phase = .running → s.countdown = 0 → s.waiting = false → s.stopped = false →
    (∀ (i : Instr) (rest : List Byte) (n : Nat), decode [s.byteAt s.PC, s.byteAt (s.PC + 1), s.byteAt (s.PC + 2)] = .ok (i, rest) →
      n = instrLength (s.byteAt s.PC) → (∀ k < n, holdsBytes s.devices (s.PC + BitVec.ofNat 16 k) = true) →
      step s = exec i { s with PC := s.PC + BitVec.ofNat 16 n }) ∧
    (∀ (i : Instr) (t : State), fetchInstruction s = .ok i t → step s = exec i t) ∧
    (readableAt s s.PC = false → step s = .fault (.addressError s.PC { s with phase := .faulted }))

/-- `clock()` of a running core: a non-zero countdown is decremented and false returned; at zero a waiting or stopped
core does nothing and returns false; else an instruction is executed and, when it completes, true returned; a fault is
returned instead (R1301). -/
def Obligations.ClockCountsThenExecutes : Prop :=
  ∀ s : State, s.phase = .running →
    (0 < s.countdown → clock s = .next ({ s with countdown := s.countdown - 1 }, false)) ∧
    (s.countdown = 0 → (s.stopped = true ∨ s.waiting = true) → clock s = .next (s, false)) ∧
    (s.countdown = 0 → s.stopped = false → s.waiting = false →
      (∀ i t u, fetchInstruction s = .ok i t → exec i t = .next u → clock s = .next (u, true)) ∧
      (∀ i t f, fetchInstruction s = .ok i t → exec i t = .fault f → clock s = .fault f) ∧
      (∀ e t, fetchInstruction s = .error e t → clock s = .fault (e.fault t)))

/-- A step makes the first call the host has waiting, whichever it is, and only without one calls `clock()` (log entry 6);
the bus's `irq()` and `nmi()` reach the attached core, and do nothing with none attached (R1214), but are refused on a bus
that is not operational (R202) and, by the model's choice, after a fault (log entry 19). -/
def Obligations.StepMakesHostCalls : Prop :=
  ∀ (s : State) (c : HostCall) (rest : List HostCall),
    step { s with hostCalls := c :: rest } = perform c { s with hostCalls := rest } ∧
    step { s with hostCalls := [] } = clockStep { s with hostCalls := [] } ∧
    perform .reset s = resetCall s ∧ perform .irq s = irq s ∧ perform .nmi s = nmi s ∧ perform .clock s = clockStep s ∧
    (s.attached = true → perform .busIrq s = irq s ∧ perform .busNmi s = nmi s) ∧
    (s.attached = false → ∀ b ∈ [HostCall.busIrq, .busNmi],
      (s.phase = .constructed ∨ s.phase = .running → perform b s = .next s) ∧
      (s.phase = .faulted → perform b s = .refused .callAfterFault) ∧
      (s.phase = .notOperational → perform b s = .refused .busNotOperational))

/-- `reset()` is accepted before the first reset, in a run and after a fault; it loads PC from 0xFFFC, sets the
registers, the countdown and the low-power flags, and changes neither memory, `diag`, the parameters nor the device map; a
vector with a byte no device owns ends it with no register changed (R1310, R140). -/
def Obligations.ResetSetsRegisters : Prop :=
  ∀ s : State, s.phase ≠ .notOperational →
    (∀ pc t, read16 0xFFFC s = .ok pc t → resetCall s = .next { s with
      A := 0x00
      X := 0x00
      Y := 0x00
      S := 0xFD
      P := 0x34
      PC := pc
      countdown := 8
      waiting := false
      stopped := false
      phase := .running
      draws := t.draws
      deviceLog := t.deviceLog }) ∧
    (holdsBytes s.devices 0xFFFC = true → holdsBytes s.devices 0xFFFD = true →
      read16 0xFFFC s = .ok (word (s.byteAt 0xFFFD) (s.byteAt 0xFFFC)) s) ∧
    (readableAt s 0xFFFC = false → resetCall s = .fault (.addressError 0xFFFC { s with phase := .faulted })) ∧
    (holdsBytes s.devices 0xFFFC = true → readableAt s 0xFFFD = false →
      resetCall s = .fault (.addressError 0xFFFD { s with phase := .faulted }))

/-- `clock()`, `irq()` and `nmi()`, also through the bus of an attached core, are refused before the first reset and after
a fault (R141, R1230), every call is refused on a bus whose registration failed (R202), and registration is refused after
the first reset (R203). The model's own: that load and attach are refused with it (log entry 7), that the listing calls
need a running core (log entry 18), and that the bus's calls with no core attached are refused after a fault (log entry
19). -/
def Obligations.CallsRefusedOutsideRun : Prop :=
  ∀ (s : State) (c : HostCall),
    (s.phase = .constructed →
      (c ∈ [HostCall.clock, .irq, .nmi] ∨ c.isListing = true ∨ s.attached = true ∧ c ∈ [HostCall.busIrq, .busNmi]) →
      perform c s = .refused .callBeforeReset) ∧
    (s.phase = .faulted → c ≠ .reset → perform c s = .refused .callAfterFault) ∧
    (s.phase = .notOperational → perform c s = .refused .busNotOperational) ∧
    (s.phase = .running → ∀ (d : Device) (n offset : Nat) (bytes : List Byte),
      c ∈ [HostCall.register d, .load n offset bytes, .attach] → perform c s = .refused .setupAfterReset)

/-! ## Interrupt calls (60_exceptions.md) -/

/-- `irq()` and `nmi()` of a running core: stopped, neither has an effect; an `irq()` with I set only ends a wait; else
the entry pushes PC high, PC low and P with B clear and U set, sets I, clears D, loads PC from the vector, adds
`INTERRUPT_CYCLES` to the countdown and ends a wait (R1210, R1211, R1212, R115). -/
def Obligations.InterruptCalls : Prop :=
  ∀ s : State, s.Inv → s.phase = .running →
    (s.stopped = true → irq s = .next s ∧ nmi s = .next s) ∧
    (s.stopped = false → flagI s.P = true → irq s = .next { s with waiting := false }) ∧
    (s.stopped = false → stackRam s →
      ∀ x ∈ [(irq, 0xFFFE#16, flagI s.P), (nmi, 0xFFFA#16, false)], x.2.2 = false →
        holdsBytes s.devices x.2.1 = true → holdsBytes s.devices (x.2.1 + 1) = true →
        ∃ t, x.1 s = .next t ∧
          t = { s with
            PC := word (s.byteAt (x.2.1 + 1)) (s.byteAt x.2.1)
            S := s.S - 3
            P := t.P
            mem := t.mem
            waiting := false
            countdown := s.countdown + s.params.interruptCycles } ∧
          flagI t.P = true ∧ flagD t.P = false ∧ onlyFlags (maskI ||| maskD) s.P t.P ∧
          t.byteAt (stackAddr s.S) = hi s.PC ∧ t.byteAt (stackAddr (s.S - 1)) = lo s.PC ∧
          t.byteAt (stackAddr (s.S - 2)) = (s.P ||| 0x20) &&& 0xEF ∧
          sameMemoryBut [stackAddr s.S, stackAddr (s.S - 1), stackAddr (s.S - 2)] s t)

/-! ## Setup calls (20_memory.md, 70_reset_and_hazards.md R1312) -/

/-- Registering a device before the first reset: a range that fits and overlaps none is appended; an overlap is a
ConfigurationError after which the bus is not operational; a range that does not fit is refused (R202, R203), also, by the
model's choice, when it overlaps too (log entry 17). -/
def Obligations.RegistrationChecksRanges : Prop :=
  ∀ (s : State) (d : Device), s.Inv → s.phase = .constructed →
    (d.size = 0 ∨ 0x10000 < d.base + d.size → perform (.register d) s = .refused .badDevice) ∧
    (0 < d.size → d.base + d.size ≤ 0x10000 →
      (∃ e ∈ s.devices, ∃ a, d.owns a = true ∧ e.owns a = true) →
      perform (.register d) s = .fault (.configurationError d { s with phase := .notOperational })) ∧
    (0 < d.size → d.base + d.size ≤ 0x10000 → (∀ e ∈ s.devices, ∀ a, ¬(d.owns a = true ∧ e.owns a = true)) →
      perform (.register d) s = .next { s with devices := s.devices ++ [d] })

/-- A program load puts byte k at index offset + k of the device's backing store, in a ROM as in a RAM, and changes no
other byte (R212, R206). -/
def Obligations.LoadFillsBackingStore : Prop :=
  ∀ (s : State) (d : Device) (n offset : Nat) (bytes : List Byte), s.Inv → s.phase = .constructed →
    s.devices[n]? = some d → (d.kind = .ram ∨ d.kind = .rom) → d.holds offset bytes.length = true →
    ∃ t, perform (.load n offset bytes) s = .next t ∧ t = { s with mem := t.mem } ∧
      (∀ (k : Nat) (b : Byte), bytes[k]? = some b → Memory.read s.params.ramInit t.mem (d.cell (offset + k)) = b) ∧
      (∀ a, (∀ k < bytes.length, a ≠ d.cell (offset + k)) →
        Memory.read s.params.ramInit t.mem a = Memory.read s.params.ramInit s.mem a)

/-! ## The listing (30_encoding.md R340) -/

/-- The listing changes no state but what external devices have been asked. `listCommands n k` reads its first `k` pairs:
for n ≥ 0 it has n pairs and for n < 0 no end, unless an AddressError ends it; it starts at PC, each next address lies past
the instruction's length, and each text is that of the bytes there (R340), spelt as the examples of R341. In a run the
host starts a listing, reads pair after pair and restarts it at the address where it started, and no such call is a fault.
That these are calls on listings kept in the state, read pair by pair, and that an AddressError in one is no fault of the
core is the model's choice (log entry 14), and so is that only a running core accepts them (log entry 18). -/
def Obligations.ListingChangesNothing : Prop :=
  (∀ (n : Int) (k : Nat) (s t : State) (l : Listing), listCommands n k s = (l, t) →
    sameButDevices s t ∧ l.start = s.PC ∧ l.pairs.length ≤ k ∧
    (0 ≤ n → l.pairs.length ≤ n.toNat) ∧
    (l.error = none → 0 ≤ n → n ≤ k → l.pairs.length = n.toNat) ∧
    (l.error = none → n < 0 → l.pairs.length = k) ∧
    (∀ a, l.error = some a → readableAt s a = false) ∧
    ((∀ a, holdsBytes s.devices a = true) →
      t = s ∧ (∀ x, l.pairs[0]? = some x → x.1 = s.PC) ∧
      (∀ (j : Nat) x y, l.pairs[j]? = some x → l.pairs[j + 1]? = some y →
        y.1 = x.1 + BitVec.ofNat 16 (instrLength (s.byteAt x.1))) ∧
      (∀ x ∈ l.pairs, x.2 = listingText x.1 (s.byteAt x.1) (s.byteAt (x.1 + 1)) (s.byteAt (x.1 + 2))))) ∧
  (∀ (n : Int) (k : Nat) (s : State), s.phase = .running →
    perform (.listCommands n) s = .next { s with listings := s.listings ++ [Listing.started n s.PC] } ∧
    ∀ l, s.listings[k]? = some l →
      sameButDevices s (l.pull s).2 ∧ (l.pull s).1.start = l.start ∧
      perform (.listNext k) s = .next { (l.pull s).2 with listings := s.listings.set k (l.pull s).1 } ∧
      perform (.listRestart k) s =
        .next { s with listings := s.listings.set k { l with next := l.start, pairs := [], error := none } }) ∧
  (∀ a : Word, String.ofList (listingText a 0xA9 0x7F 0x00) = "LDA #$7F" ∧
    String.ofList (listingText a 0x6C 0xFF 0x02) = "JMP ($02FF)" ∧ String.ofList (listingText a 0x0A 0x00 0x00) = "ASL A" ∧
    String.ofList (listingText a 0x37 0x12 0x00) = "RMB3 $12") ∧
  String.ofList (listingText 0x1000 0xD0 0xFE 0x00) = "BNE $1000"

/-! ## Rules of the whole machine -/

/-- Every step keeps the invariant: the memory's canonical form, its bytes in RAM and ROM devices, the range table, and U
set after the first reset (R111, R202, R203, R210). -/
def Obligations.StepKeepsInvariant : Prop :=
  ∀ s t : State, s.Inv → step s = .next t → t.Inv

/-- The invariant holds in the reset state and in a core just constructed. -/
def Obligations.InvariantAtReset : Prop :=
  State.reset.Inv ∧ ∀ params, (State.constructed params).Inv

/-- A ROM answers its byte, a bus write to it is a WriteProtectionError that changes nothing, and its bytes never change
in a run, whatever instruction or call a step makes (R211); that a program load, which does write a ROM, is refused in a run is log
entry 7. -/
def Obligations.RomNeverChanges : Prop :=
  ∀ (s t : State) (a : Word) (v : Byte), romAt s a = true →
    busRead a s = .ok (s.byteAt a) s ∧ busWrite a v s = .error (.writeProtectionError a) s ∧
    (s.phase = .running → step s = .next t → t.byteAt a = s.byteAt a)

/-- No step changes the parameters, and after the first reset none changes the device map or the attachment (R3, R135,
R203); that an attach is refused with the registrations then is log entry 7. -/
def Obligations.ConfigurationIsConstant : Prop :=
  ∀ s t : State, step s = .next t → t.params = s.params ∧
    (s.phase ≠ .constructed → t.devices = s.devices ∧ t.attached = s.attached ∧
      (t.phase = .running ∨ t.phase = s.phase))

/-- STP sets `stopped`, `reset()` clears it, and before that nothing moves PC, A, X, Y, S, P or memory: `clock()` only
counts down, `irq()` and `nmi()` have no effect (R132, R1244). The listing calls, which the core never sees, change only the
host's listings and what external devices have been asked (R340). -/
def Obligations.StoppedUntilReset : Prop :=
  ∀ s t : State,
    (exec .stp s = .next t → t.stopped = true) ∧ (resetCall s = .next t → t.stopped = false) ∧
    (s.phase = .running → s.stopped = true → (∀ rest, s.hostCalls ≠ .reset :: rest) → step s = .next t →
      t = { s with
        countdown := t.countdown
        hostCalls := t.hostCalls
        listings := t.listings
        draws := t.draws
        deviceLog := t.deviceLog } ∧
      t.countdown ≤ s.countdown ∧
      ((∀ c rest, s.hostCalls = c :: rest → c.isListing = false) →
        t = { s with countdown := t.countdown, hostCalls := t.hostCalls }))

/-- WAI sets `waiting`; `irq()`, also a masked one, `nmi()` and `reset()` clear it; a waiting core's `clock()` executes no
instruction, it only counts down (R131, R1305). A stopped core keeps it until the reset (R1210, R1211). -/
def Obligations.WaitingUntilInterrupt : Prop :=
  ∀ s t : State,
    (exec .wai s = .next t → t.waiting = true) ∧ (resetCall s = .next t → t.waiting = false) ∧
    (s.stopped = false → irq s = .next t ∨ nmi s = .next t → t.waiting = false) ∧
    (s.phase = .running → s.waiting = true → (s.hostCalls = [] ∨ ∃ rest, s.hostCalls = .clock :: rest) →
      step s = .next t → t = { s with countdown := s.countdown - 1, hostCalls := s.hostCalls.tail })

/-- No instruction but PLP and RTI changes B, and none but PLP, RTI, CLI, SEI and BRK changes I (R112, R113). -/
def Obligations.BreakAndInterruptFlagWriters : Prop :=
  ∀ (i : Instr) (s t : State), exec i s = .next t → i.operation ≠ .PLP → i.operation ≠ .RTI →
    flagB t.P = flagB s.P ∧ flagU t.P = flagU s.P ∧
    (i.operation ∉ [.CLI, .SEI, .BRK] → flagI t.P = flagI s.P) ∧
    (i.operation ∉ [.CLD, .SED, .BRK] → flagD t.P = flagD s.P)

/-- Every instruction completes in every mode, with every operand, when a device that accepts writes owns every address
(R312, R1231: there is no other fault). -/
def Obligations.EveryInstructionCompletes : Prop :=
  ∀ (i : Instr) (s : State), i.wf = true → (∀ a, writableAt s a = true) → ∃ t, exec i s = .next t

/-- A term that is no instruction is refused, and an instruction never is. -/
def Obligations.OnlyIllFormedRefused : Prop :=
  ∀ (i : Instr) (s : State),
    (i.wf = false → exec i s = .refused .illFormed) ∧ (i.wf = true → ∀ r, exec i s ≠ .refused r)

/-- Timing decides nothing but the countdown: with other cycle counts, penalties and another countdown an instruction gives
the same registers, flags, memory and records (R1321). -/
def Obligations.TimingChangesOnlyCountdown : Prop :=
  ∀ (i : Instr) (s t : State) (cycles : List (Byte × Nat)) (penalties : List (Byte × Bool)) (interruptCycles countdown : Nat),
    exec i s = .next t →
    ∃ c, exec i { s with
        params := { s.params with cycles := cycles, pagePenalties := penalties, interruptCycles := interruptCycles }
        countdown := countdown } =
      .next { t with
        params := { t.params with cycles := cycles, pagePenalties := penalties, interruptCycles := interruptCycles }
        countdown := c }
end

