-- ==== Sys2Proof/Laws/Memory.lean ====
section
/-!
SUPPORT. The laws of memory: a read after a write, and that every memory operation keeps the canonical form.
-/

namespace Sys2Proof.Machine

theorem lookup_erase_ne {m : Memory} {a b : Nat} (h : b ≠ a) : (m.erase a).lookup b = m.lookup b := by
  induction m with
  | nil => rfl
  | cons c m ih =>
    obtain ⟨k, v⟩ := c
    by_cases hk : k = a
    · subst hk
      simp [Memory.erase, Memory.lookup, Ne.symm h]
    · simp only [Memory.erase, if_neg hk, Memory.lookup, ih]

theorem lookup_insert {m : Memory} {a b : Nat} {v : Byte} :
    (m.insert a v).lookup b = if b = a then some v else m.lookup b := by
  induction m with
  | nil => simp [Memory.insert, Memory.lookup, eq_comm]
  | cons c m ih =>
    obtain ⟨k, w⟩ := c
    by_cases h1 : a < k
    · by_cases h : b = a
      · simp [Memory.insert, Memory.lookup, h1, h]
      · simp [Memory.insert, Memory.lookup, h1, h, Ne.symm h]
    · by_cases h2 : a = k
      · subst h2
        by_cases h : b = a
        · simp [Memory.insert, Memory.lookup, h]
        · simp [Memory.insert, Memory.lookup, h, Ne.symm h]
      · simp only [Memory.insert, if_neg h1, if_neg h2, Memory.lookup, ih]
        by_cases h3 : k = b
        · have : b ≠ a := fun e => h2 (by omega)
          simp [h3, this]
        · simp [h3]

/-- An address below every entry has none. -/
theorem lookup_none {m : Memory} {a : Nat} (h : ∀ c ∈ m, a ≠ c.1) : m.lookup a = none := by
  induction m with
  | nil => rfl
  | cons c m ih =>
    obtain ⟨k, v⟩ := c
    have hk : k ≠ a := fun e => h (k, v) (by simp) e.symm
    simp only [Memory.lookup, hk, if_false]
    exact ih fun c hc => h c (by simp [hc])

theorem lookup_erase_self {m : Memory} {a : Nat} (h : m.Pairwise (fun c d => c.1 < d.1)) :
    (m.erase a).lookup a = none := by
  induction m with
  | nil => rfl
  | cons c m ih =>
    obtain ⟨k, v⟩ := c
    rw [List.pairwise_cons] at h
    by_cases hk : k = a
    · subst hk
      simp only [Memory.erase, if_true]
      exact lookup_none fun c hc => Nat.ne_of_lt (h.1 c hc)
    · simp [Memory.erase, Memory.lookup, hk, ih h.2]

/-- Reading the byte just written gives it (20_memory.md R210). -/
theorem read_write_self {init : RamInit} {m : Memory} {a : Nat} {v : Byte}
    (h : m.Pairwise (fun c d => c.1 < d.1)) : Memory.read init (Memory.write init m a v) a = v := by
  unfold Memory.write Memory.read
  split
  · next e => simp [lookup_erase_self h, e]
  · simp [lookup_insert]

/-- A write leaves every other byte alone (R210). -/
theorem read_write_ne {init : RamInit} {m : Memory} {a b : Nat} {v : Byte} (h : b ≠ a) :
    Memory.read init (Memory.write init m a v) b = Memory.read init m b := by
  unfold Memory.write Memory.read
  split
  · rw [lookup_erase_ne h]
  · simp [lookup_insert, h]

theorem mem_erase {m : Memory} {a : Nat} {c : Host.Cell} (h : c ∈ m.erase a) : c ∈ m := by
  induction m with
  | nil => exact h
  | cons d m ih =>
    obtain ⟨k, v⟩ := d
    by_cases hk : k = a
    · simp only [Memory.erase, hk, if_true] at h
      exact List.mem_cons_of_mem _ h
    · simp only [Memory.erase, hk, if_false, List.mem_cons] at h ⊢
      exact h.imp id ih

theorem mem_insert {m : Memory} {a : Nat} {v : Byte} {c : Host.Cell} (h : c ∈ m.insert a v) :
    c = (a, v) ∨ c ∈ m := by
  induction m with
  | nil => simpa [Memory.insert] using h
  | cons d m ih =>
    obtain ⟨k, w⟩ := d
    unfold Memory.insert at h
    split at h
    · simpa using h
    · split at h
      · simp only [List.mem_cons] at h ⊢
        exact h.imp id Or.inr
      · simp only [List.mem_cons] at h ⊢
        rcases h with h | h
        · exact Or.inr (Or.inl h)
        · exact (ih h).imp id Or.inr

theorem mem_write {init : RamInit} {m : Memory} {a : Nat} {v : Byte} {c : Host.Cell}
    (h : c ∈ Memory.write init m a v) : (c = (a, v) ∧ v ≠ unlisted init a) ∨ c ∈ m := by
  unfold Memory.write at h
  split at h
  · exact Or.inr (mem_erase h)
  · next hv => exact (mem_insert h).imp (fun e => ⟨e, hv⟩) id

theorem erase_sorted {m : Memory} {a : Nat} (h : m.Pairwise (fun c d => c.1 < d.1)) :
    (m.erase a).Pairwise (fun c d => c.1 < d.1) := by
  induction m with
  | nil => exact h
  | cons c m ih =>
    obtain ⟨k, v⟩ := c
    rw [List.pairwise_cons] at h
    by_cases hk : k = a
    · simpa [Memory.erase, hk] using h.2
    · simp only [Memory.erase, hk, if_false, List.pairwise_cons]
      exact ⟨fun d hd => h.1 d (mem_erase hd), ih h.2⟩

theorem insert_sorted {m : Memory} {a : Nat} {v : Byte} (h : m.Pairwise (fun c d => c.1 < d.1)) :
    (m.insert a v).Pairwise (fun c d => c.1 < d.1) := by
  induction m with
  | nil => simp [Memory.insert]
  | cons c m ih =>
    obtain ⟨k, w⟩ := c
    have hc := List.pairwise_cons.1 h
    unfold Memory.insert
    split
    · next h1 =>
      refine List.pairwise_cons.2 ⟨fun d hd => ?_, h⟩
      rcases List.mem_cons.1 hd with e | hd
      · rw [e]; exact h1
      · exact Nat.lt_trans h1 (hc.1 d hd)
    · split
      · next h2 =>
        subst h2
        exact List.pairwise_cons.2 ⟨hc.1, hc.2⟩
      · next h1 h2 =>
        refine List.pairwise_cons.2 ⟨fun d hd => ?_, ih hc.2⟩
        rcases mem_insert hd with e | hd
        · rw [e]; show k < a; omega
        · exact hc.1 d hd

theorem write_sorted {init : RamInit} {m : Memory} {a : Nat} {v : Byte}
    (h : m.Pairwise (fun c d => c.1 < d.1)) : (Memory.write init m a v).Pairwise (fun c d => c.1 < d.1) := by
  unfold Memory.write
  split
  · exact erase_sorted h
  · exact insert_sorted h

/-- A write keeps the canonical form. -/
theorem write_wf {init : RamInit} {m : Memory} {a : Nat} {v : Byte} (h : Memory.wf init m) (ha : a < 0x10000) :
    Memory.wf init (Memory.write init m a v) := by
  refine ⟨write_sorted h.1, fun c hc => ?_⟩
  rcases mem_write hc with ⟨rfl, hv⟩ | hc
  · exact ⟨ha, hv⟩
  · exact h.2 c hc

/-- A program load keeps the canonical form. -/
theorem writeAll_wf {init : RamInit} {bytes : List Byte} : ∀ {m : Memory} {a : Nat}, Memory.wf init m →
    a + bytes.length ≤ 0x10000 → Memory.wf init (Memory.writeAll init m a bytes) := by
  induction bytes with
  | nil => intro m a h _; exact h
  | cons b bs ih =>
    intro m a h ha
    simp only [List.length_cons] at ha
    exact ih (write_wf h (by omega)) (by omega)

/-- The bytes a program load lists are the ones in its range or were there before. -/
theorem mem_writeAll {init : RamInit} {bytes : List Byte} : ∀ {m : Memory} {a : Nat} {c : Host.Cell},
    c ∈ Memory.writeAll init m a bytes → (a ≤ c.1 ∧ c.1 < a + bytes.length) ∨ c ∈ m := by
  induction bytes with
  | nil => intro m a c h; exact Or.inr h
  | cons b bs ih =>
    intro m a c h
    simp only [Memory.writeAll] at h
    simp only [List.length_cons]
    rcases ih h with h | h
    · left; omega
    · rcases mem_write h with ⟨rfl, _⟩ | h
      · left; simp
      · exact Or.inr h

/-- Two memories in canonical form that read the same at every address are the same list. -/
theorem read_determines {init : RamInit} : ∀ {m n : Memory}, Memory.wf init m → Memory.wf init n →
    (∀ a, Memory.read init m a = Memory.read init n a) → m = n := by
  have look : ∀ {m : Memory} {k : Nat} {v : Byte} {rest : Memory}, m = (k, v) :: rest → Memory.wf init m →
      Memory.read init m k ≠ unlisted init k := by
    intro m k v rest e h
    subst e
    simpa [Memory.read, Memory.lookup] using (h.2 (k, v) (by simp)).2
  have first : ∀ {m : Memory} {k : Nat} {v : Byte} {rest : Memory} {a : Nat}, m = (k, v) :: rest → Memory.wf init m →
      a < k → Memory.read init m a = unlisted init a := by
    intro m k v rest a e h ha
    subst e
    have hp := List.pairwise_cons.1 h.1
    have : Memory.lookup ((k, v) :: rest) a = none := lookup_none fun c hc => by
      rcases List.mem_cons.1 hc with e | hc
      · rw [e]; exact Nat.ne_of_lt ha
      · exact Nat.ne_of_lt (Nat.lt_trans ha (hp.1 c hc))
    simp [Memory.read, this]
  intro m
  induction m with
  | nil =>
    intro n _ hn he
    cases n with
    | nil => rfl
    | cons d n => exact absurd (by rw [← he]; rfl) (look rfl hn)
  | cons c m ih =>
    intro n hm hn he
    obtain ⟨k, v⟩ := c
    cases n with
    | nil => exact absurd (by rw [he]; rfl) (look rfl hm)
    | cons d n =>
      obtain ⟨j, w⟩ := d
      have hkj : k = j := by
        rcases Nat.lt_trichotomy k j with h | h | h
        · exact absurd (by rw [he k]; exact first rfl hn h) (look rfl hm)
        · exact h
        · exact absurd (by rw [← he j]; exact first rfl hm h) (look rfl hn)
      subst hkj
      have hv : v = w := by simpa [Memory.read, Memory.lookup] using he k
      subst hv
      have pm := List.pairwise_cons.1 hm.1
      have pn := List.pairwise_cons.1 hn.1
      congr 1
      refine ih ⟨pm.2, fun c hc => hm.2 c (by simp [hc])⟩ ⟨pn.2, fun c hc => hn.2 c (by simp [hc])⟩ fun a => ?_
      by_cases hak : k = a
      · subst hak
        rw [Memory.read, Memory.read, lookup_none fun c hc => Nat.ne_of_lt (pm.1 c hc),
          lookup_none fun c hc => Nat.ne_of_lt (pn.1 c hc)]
      · simpa [Memory.read, Memory.lookup, hak] using he a

end Sys2Proof.Machine
end

