-- ==== Sys2Proof/Laws/State.lean ====
section
/-!
SUPPORT. The small lemmas of the state and of its named updates, true by rfl: what each register write gives, and each
field of the state after `reset()` and after an instruction is placed at PC.
-/

namespace Sys2Proof.Machine

/-- The byte at an address looks at the memory and the parameters only. -/
theorem byteAt_congr {s t : State} (hp : t.params = s.params) (hm : t.mem = s.mem) (addr : Word) :
    t.byteAt addr = s.byteAt addr := by
  simp [State.byteAt, hp, hm]

@[simp] theorem getState_apply (s : State) : getState s = .ok s s := rfl
@[simp] theorem update_apply (f : State → State) (s : State) : update f s = .ok () (f s) := rfl
@[simp] theorem setA_apply (v : Byte) (s : State) : setA v s = .ok () { s with A := v } := rfl
@[simp] theorem setX_apply (v : Byte) (s : State) : setX v s = .ok () { s with X := v } := rfl
@[simp] theorem setY_apply (v : Byte) (s : State) : setY v s = .ok () { s with Y := v } := rfl
@[simp] theorem setS_apply (v : Byte) (s : State) : setS v s = .ok () { s with S := v } := rfl
@[simp] theorem setPC_apply (v : Word) (s : State) : setPC v s = .ok () { s with PC := v } := rfl
@[simp] theorem updateP_apply (f : Byte → Byte) (s : State) : updateP f s = .ok () { s with P := f s.P } := rfl
@[simp] theorem updateNZ_apply (v : Byte) (s : State) : updateNZ v s = .ok () { s with P := setNZ v s.P } := rfl
@[simp] theorem loadCountdown_apply (op : Byte) (extra : Bool) (adj : Nat) (s : State) :
    loadCountdown op extra adj s = .ok () { s with countdown := cost s.params op extra adj } := rfl
@[simp] theorem recordUnsupported_apply (op : Byte) (addr : Word) (s : State) :
    recordUnsupported op addr s = .ok () { s with diag := s.diag ++ [.unsupportedOpcode op addr] } := rfl

/-! ## The fields after `reset()` (10_state.md R140) -/

section
variable (target : Word) (s : State)
@[simp] theorem resetRegisters_A : (resetRegisters target s).A = 0 := rfl
@[simp] theorem resetRegisters_X : (resetRegisters target s).X = 0 := rfl
@[simp] theorem resetRegisters_Y : (resetRegisters target s).Y = 0 := rfl
@[simp] theorem resetRegisters_S : (resetRegisters target s).S = 0xFD := rfl
@[simp] theorem resetRegisters_P : (resetRegisters target s).P = 0x34 := rfl
@[simp] theorem resetRegisters_PC : (resetRegisters target s).PC = target := rfl
@[simp] theorem resetRegisters_countdown : (resetRegisters target s).countdown = 8 := rfl
@[simp] theorem resetRegisters_waiting : (resetRegisters target s).waiting = false := rfl
@[simp] theorem resetRegisters_stopped : (resetRegisters target s).stopped = false := rfl
@[simp] theorem resetRegisters_diag : (resetRegisters target s).diag = s.diag := rfl
@[simp] theorem resetRegisters_phase : (resetRegisters target s).phase = .running := rfl
@[simp] theorem resetRegisters_params : (resetRegisters target s).params = s.params := rfl
@[simp] theorem resetRegisters_devices : (resetRegisters target s).devices = s.devices := rfl
@[simp] theorem resetRegisters_attached : (resetRegisters target s).attached = s.attached := rfl
@[simp] theorem resetRegisters_mem : (resetRegisters target s).mem = s.mem := rfl
@[simp] theorem resetRegisters_listings : (resetRegisters target s).listings = s.listings := rfl
@[simp] theorem resetRegisters_hostCalls : (resetRegisters target s).hostCalls = s.hostCalls := rfl
@[simp] theorem resetRegisters_draws : (resetRegisters target s).draws = s.draws := rfl
@[simp] theorem resetRegisters_deviceLog : (resetRegisters target s).deviceLog = s.deviceLog := rfl
end

/-! ## The fields after an instruction is placed at PC -/

section
variable (s : State) (nbits w : Nat)
@[simp] theorem withFetchWord_A : (s.withFetchWord nbits w).A = s.A := rfl
@[simp] theorem withFetchWord_X : (s.withFetchWord nbits w).X = s.X := rfl
@[simp] theorem withFetchWord_Y : (s.withFetchWord nbits w).Y = s.Y := rfl
@[simp] theorem withFetchWord_S : (s.withFetchWord nbits w).S = s.S := rfl
@[simp] theorem withFetchWord_P : (s.withFetchWord nbits w).P = s.P := rfl
@[simp] theorem withFetchWord_PC : (s.withFetchWord nbits w).PC = s.PC := rfl
@[simp] theorem withFetchWord_countdown : (s.withFetchWord nbits w).countdown = 0 := rfl
@[simp] theorem withFetchWord_waiting : (s.withFetchWord nbits w).waiting = false := rfl
@[simp] theorem withFetchWord_stopped : (s.withFetchWord nbits w).stopped = false := rfl
@[simp] theorem withFetchWord_diag : (s.withFetchWord nbits w).diag = s.diag := rfl
@[simp] theorem withFetchWord_phase : (s.withFetchWord nbits w).phase = .running := rfl
@[simp] theorem withFetchWord_params : (s.withFetchWord nbits w).params = s.params := rfl
@[simp] theorem withFetchWord_attached : (s.withFetchWord nbits w).attached = s.attached := rfl
@[simp] theorem withFetchWord_listings : (s.withFetchWord nbits w).listings = s.listings := rfl
@[simp] theorem withFetchWord_hostCalls : (s.withFetchWord nbits w).hostCalls = [] := rfl
@[simp] theorem withFetchWord_draws : (s.withFetchWord nbits w).draws = s.draws := rfl
@[simp] theorem withFetchWord_deviceLog : (s.withFetchWord nbits w).deviceLog = s.deviceLog := rfl
end

end Sys2Proof.Machine
end

