-- ==== Sys2Proof/Laws/Ops.lean ====
section
/-!
SUPPORT. What the shared operations over the bus and the stack can do, said once for each: when it succeeds, what it
answers and what it leaves unchanged.
-/

namespace Sys2Proof.Machine

@[simp] theorem bind_apply {α β : Type} (x : Op α) (f : α → Op β) (s : State) :
    (x >>= f) s = match x s with
      | .ok a s' => f a s'
      | .error e s' => .error e s' := by
  show EStateM.bind x f s = _
  unfold EStateM.bind
  cases x s <;> rfl

@[simp] theorem map_apply {α β : Type} (f : α → β) (x : Op α) (s : State) :
    (f <$> x) s = match x s with
      | .ok a s' => .ok (f a) s'
      | .error e s' => .error e s' := by
  show EStateM.map f x s = _
  unfold EStateM.map
  cases x s <;> rfl

@[simp] theorem pure_apply {α : Type} (a : α) (s : State) : (pure a : Op α) s = .ok a s := rfl

/-- A sequence succeeds when both parts do. -/
theorem bind_ok {α β : Type} {x : Op α} {f : α → Op β} {s t : State} {b : β} (h : (x >>= f) s = .ok b t) :
    ∃ a u, x s = .ok a u ∧ f a u = .ok b t := by
  rw [bind_apply] at h
  cases hx : x s with
  | ok a u => exact ⟨a, u, rfl, by rw [hx] at h; exact h⟩
  | error e u => rw [hx] at h; cases h

/-- A sequence fails when its first part does, or when that succeeds and the rest fails. -/
theorem bind_error {α β : Type} {x : Op α} {f : α → Op β} {s t : State} {e : BusError}
    (h : (x >>= f) s = .error e t) :
    x s = .error e t ∨ ∃ a u, x s = .ok a u ∧ f a u = .error e t := by
  rw [bind_apply] at h
  cases hx : x s with
  | ok a u => rw [hx] at h; exact Or.inr ⟨a, u, rfl, h⟩
  | error e' u => rw [hx] at h; cases h; exact Or.inl rfl

@[simp] theorem plain_apply (x : Op Unit) (s : State) :
    plain x s = match x s with
      | .ok _ s' => .ok 0 s'
      | .error e s' => .error e s' := by
  unfold plain
  rw [bind_apply]
  cases x s <;> rfl

/-! ## The bus -/

/-- The owner of an address has it in its range. -/
theorem ownerOf_owns {devices : List Device} {addr : Nat} {d : Device} (h : ownerOf devices addr = some d) :
    d.owns addr = true := by
  simpa [ownerOf] using List.find?_some h

theorem ownerOf_mem {devices : List Device} {addr : Nat} {d : Device} (h : ownerOf devices addr = some d) :
    d ∈ devices := List.mem_of_find?_eq_some h

/-- The translation of R206 and back. -/
theorem cell_index {d : Device} {addr : Nat} (h : d.owns addr = true) : d.cell (d.index addr) = addr := by
  simp only [Device.owns, decide_eq_true_eq] at h
  unfold Device.cell Device.index
  split <;> omega

/-- A read of a RAM or ROM answers the byte held and changes nothing (20_memory.md R210, R211). -/
theorem busRead_holds {s : State} {a : Word} (h : holdsBytes s.devices a = true) :
    busRead a s = .ok (s.byteAt a) s := by
  unfold holdsBytes at h
  split at h
  · next d hd =>
    have hc := cell_index (ownerOf_owns hd)
    simp only [decide_eq_true_eq] at h
    rcases h with h | h <;> simp [busRead, hd, Device.read, h, hc, State.byteAt]
  · cases h

/-- A read of an owned address succeeds (R204). -/
theorem busRead_readable {s : State} {a : Word} (h : readableAt s a = true) : ∃ v t, busRead a s = .ok v t := by
  unfold readableAt at h
  obtain ⟨d, hd⟩ := Option.isSome_iff_exists.1 h
  unfold busRead
  rw [hd]
  show ∃ v t, d.read _ s = .ok v t
  unfold Device.read
  split <;> exact ⟨_, _, rfl⟩

/-- A read of an address no device owns is an AddressError and has no effect (R204, R1230). -/
theorem busRead_unowned {s : State} {a : Word} (h : readableAt s a = false) :
    busRead a s = .error (.addressError a) s := by
  unfold readableAt at h
  rw [Option.isSome_eq_false_iff, Option.isNone_iff_eq_none] at h
  simp [busRead, h]

/-- What a read can change. -/
theorem busRead_frame {s t : State} {a : Word} {v : Byte} (h : busRead a s = .ok v t) : sameButDevices s t := by
  unfold busRead at h
  split at h
  · cases h
  · unfold Device.read at h
    split at h <;> · cases h; rfl

/-- A read that fails has no effect. -/
theorem busRead_error {s t : State} {a : Word} {e : BusError} (h : busRead a s = .error e t) :
    t = s ∧ e = .addressError a := by
  unfold busRead at h
  split at h
  · cases h; exact ⟨rfl, rfl⟩
  · unfold Device.read at h
    split at h <;> cases h

/-- A write to a RAM stores the byte (R210). -/
theorem busWrite_ram {s : State} {a : Word} {v : Byte} (h : ramAt s a = true) :
    busWrite a v s = .ok () { s with mem := Memory.write s.params.ramInit s.mem a.toNat v } := by
  unfold ramAt at h
  split at h
  · next d hd =>
    simp only [decide_eq_true_eq] at h
    simp [busWrite, hd, Device.write, h, cell_index (ownerOf_owns hd)]
  · cases h

/-- A write to a read-only device is a WriteProtectionError and has no effect (R205, R211). -/
theorem busWrite_readOnly {s : State} {a : Word} {v : Byte} (h : readOnlyAt s a = true) :
    busWrite a v s = .error (.writeProtectionError a) s := by
  unfold readOnlyAt at h
  split at h
  · next d hd =>
    simp only [decide_eq_true_eq] at h
    rcases h with h | h <;> simp [busWrite, hd, Device.write, h]
  · cases h

/-- A write to an external device that accepts writes is seen by the device (R213). -/
theorem busWrite_external {s : State} {a : Word} {v : Byte} {d : Device} (hd : ownerOf s.devices a.toNat = some d)
    (hk : d.kind = .external false) :
    busWrite a v s = .ok () { s with deviceLog := s.deviceLog ++ [⟨d.base, d.index a.toNat, some v⟩] } := by
  simp [busWrite, hd, Device.write, hk]

/-- A write to an address that accepts writes succeeds. -/
theorem busWrite_writable {s : State} {a : Word} {v : Byte} (h : writableAt s a = true) :
    ∃ t, busWrite a v s = .ok () t := by
  unfold writableAt at h
  split at h
  · next d hd =>
    simp only [Device.writable, decide_eq_true_eq] at h
    rcases h with h | h <;> simp [busWrite, hd, Device.write, h]
  · cases h

/-- Everything a write that succeeds can do: a RAM takes the byte, or an external device sees it. -/
theorem busWrite_ok {s t : State} {a : Word} {v : Byte} (h : busWrite a v s = .ok () t) :
    (ramAt s a = true ∧ t = { s with mem := Memory.write s.params.ramInit s.mem a.toNat v }) ∨
      ∃ l, t = { s with deviceLog := l } := by
  unfold busWrite at h
  split at h
  · cases h
  · next d hd =>
    unfold Device.write at h
    split at h
    · next hk =>
      left
      cases h
      exact ⟨by simp [ramAt, hd, hk], by rw [cell_index (ownerOf_owns hd)]⟩
    · cases h
    · cases h
    · cases h; exact Or.inr ⟨_, rfl⟩

/-- What a write can change. -/
theorem busWrite_frame {s t : State} {a : Word} {v : Byte} (h : busWrite a v s = .ok () t) :
    t = { s with mem := t.mem, deviceLog := t.deviceLog } := by
  rcases busWrite_ok h with ⟨_, rfl⟩ | ⟨l, rfl⟩ <;> rfl

/-- A write that fails has no effect. -/
theorem busWrite_error {s t : State} {a : Word} {v : Byte} {e : BusError} (h : busWrite a v s = .error e t) : t = s := by
  unfold busWrite at h
  split at h
  · cases h; rfl
  · unfold Device.write at h
    split at h <;> cases h <;> rfl

/-- What two reads of a 16-bit quantity can change. -/
theorem read16_frame {s t : State} {a w : Word} (h : read16 a s = .ok w t) : sameButDevices s t := by
  obtain ⟨l, u, h1, h⟩ := bind_ok h
  obtain ⟨m, v, h2, h⟩ := bind_ok h
  cases h
  rw [busRead_frame h2, busRead_frame h1]

/-- A 16-bit quantity held by RAM or ROM, low byte first (R220). -/
theorem read16_holds {s : State} {a : Word} (h0 : holdsBytes s.devices a = true)
    (h1 : holdsBytes s.devices (a + 1) = true) : read16 a s = .ok (word (s.byteAt (a + 1)) (s.byteAt a)) s := by
  simp only [read16, bind_apply, busRead_holds h0, busRead_holds h1, pure_apply]

/-! ## The stack -/

/-- A push onto RAM (R230). -/
theorem push_ram {s : State} {v : Byte} (h : ramAt s (stackAddr s.S) = true) :
    push v s = .ok () { s with
      mem := Memory.write s.params.ramInit s.mem (stackAddr s.S).toNat v
      S := s.S - 1 } := by
  simp [push, busWrite_ram h]

/-- What a push can change. -/
theorem push_frame {s t : State} {v : Byte} (h : push v s = .ok () t) :
    t = { s with S := s.S - 1, mem := t.mem, deviceLog := t.deviceLog } := by
  obtain ⟨_, _, h1, h⟩ := bind_ok h
  cases h1
  obtain ⟨_, u, h2, h⟩ := bind_ok h
  cases h
  rw [busWrite_frame h2]

/-- A pull from RAM or ROM (R231). -/
theorem pull_holds {s : State} (h : holdsBytes s.devices (stackAddr (s.S + 1)) = true) :
    pull s = .ok (s.byteAt (stackAddr (s.S + 1))) { s with S := s.S + 1 } := by
  have h' := busRead_holds (s := { s with S := s.S + 1 }) h
  simp only [pull, bind_apply, getState_apply, setS_apply, h']
  rfl

/-- What a pull can change. -/
theorem pull_frame {s t : State} {v : Byte} (h : pull s = .ok v t) :
    t = { s with S := s.S + 1, draws := t.draws, deviceLog := t.deviceLog } := by
  obtain ⟨_, _, h1, h⟩ := bind_ok h
  cases h1
  obtain ⟨_, _, h1, h⟩ := bind_ok h
  cases h1
  rw [busRead_frame h]

/-- What the exception entry can change: three pushes, I and D, PC (R1110, R1212). -/
theorem enterException_frame {s t : State} {vector : Word} {image : Byte → Byte}
    (h : enterException vector image s = .ok () t) :
    t = { s with
      S := s.S - 3
      P := setD false (setI true s.P)
      PC := t.PC
      mem := t.mem
      draws := t.draws
      deviceLog := t.deviceLog } := by
  obtain ⟨_, _, h0, h⟩ := bind_ok h
  cases h0
  obtain ⟨_, u1, h1, h⟩ := bind_ok h
  obtain ⟨_, u2, h2, h⟩ := bind_ok h
  obtain ⟨_, u3, h3, h⟩ := bind_ok h
  obtain ⟨_, u4, h4, h⟩ := bind_ok h
  obtain ⟨_, u5, h5, h⟩ := bind_ok h
  cases h
  cases h4
  rw [read16_frame h5, push_frame h3, push_frame h2, push_frame h1]
  have e : s.S - 1 - 1 - 1 = s.S - 3 := by bv_omega
  simp only [e]

/-- What the return from an exception can change (R1111). -/
theorem returnFromException_frame {s t : State} (h : returnFromException s = .ok () t) :
    t = { s with S := s.S + 3, P := t.P, PC := t.PC, draws := t.draws, deviceLog := t.deviceLog } := by
  obtain ⟨_, u1, h1, h⟩ := bind_ok h
  obtain ⟨_, u2, h2, h⟩ := bind_ok h
  obtain ⟨_, u3, h3, h⟩ := bind_ok h
  obtain ⟨_, u4, h4, h⟩ := bind_ok h
  cases h
  cases h2
  rw [pull_frame h4, pull_frame h3, pull_frame h1]
  have e : s.S + 1 + 1 + 1 = s.S + 3 := by bv_omega
  simp only [e]

end Sys2Proof.Machine
end

