-- ==== Sys2Proof/Laws/Operands.lean ====
section
/-!
SUPPORT. What the resolver can do (spec 40_addressing_modes.md R400): it changes nothing but what external devices have
been asked, it succeeds when its reads do, and every mode with an operand answers one.
-/

namespace Sys2Proof.Machine

theorem sameButDevices_trans {s t u : State} (h1 : sameButDevices s t) (h2 : sameButDevices t u) : sameButDevices s u := by
  unfold sameButDevices at *
  rw [h2, h1]

theorem readPointer_frame {s t : State} {l h : Word} {w : Word} (hr : readPointer l h s = .ok w t) : sameButDevices s t := by
  obtain ⟨_, u, h1, hr⟩ := bind_ok hr
  obtain ⟨_, v, h2, hr⟩ := bind_ok hr
  cases hr
  exact sameButDevices_trans (busRead_frame h1) (busRead_frame h2)

/-- The answer for a mode whose location is an address (R400). -/
theorem atAddress_ok {s t : State} {loc : Word} {extra : Bool} {disp : Option Byte} {r : Resolved}
    (h : atAddress loc extra disp s = .ok r t) :
    ∃ m, busRead loc s = .ok m t ∧ r = ⟨.addr loc, some m, extra, disp⟩ := by
  obtain ⟨m, u, h1, h⟩ := bind_ok h
  cases h
  exact ⟨m, h1, rfl⟩

theorem atAddress_frame {s t : State} {loc : Word} {extra : Bool} {disp : Option Byte} {r : Resolved}
    (h : atAddress loc extra disp s = .ok r t) : sameButDevices s t := by
  obtain ⟨m, h1, _⟩ := atAddress_ok h
  exact busRead_frame h1

/-- The resolver writes no register and no memory (R400). -/
theorem resolve_frame {o : Operand} {s t : State} {r : Resolved} (h : resolve o s = .ok r t) : sameButDevices s t := by
  obtain ⟨s', u, h0, h⟩ := bind_ok h
  cases h0
  cases o with
  | imp | acc | imm _ | rel _ | stack => cases h; rfl
  | zp _ | zpx _ | zpy _ | abs _ | zprel _ _ => exact atAddress_frame h
  | absx _ | absy _ => exact atAddress_frame h
  | ind _ | indx _ | indy _ | zpind _ | absindx _ =>
    obtain ⟨w, v, h1, h⟩ := bind_ok h
    exact sameButDevices_trans (readPointer_frame h1) (atAddress_frame h)

theorem readableAt_congr {s t : State} (h : t.devices = s.devices) (a : Word) : readableAt t a = readableAt s a := by
  simp [readableAt, h]

theorem ramAt_congr {s t : State} (h : t.devices = s.devices) (a : Word) : ramAt t a = ramAt s a := by
  simp [ramAt, h]

theorem romAt_congr {s t : State} (h : t.devices = s.devices) (a : Word) : romAt t a = romAt s a := by
  simp [romAt, h]

theorem writableAt_congr {s t : State} (h : t.devices = s.devices) (a : Word) : writableAt t a = writableAt s a := by
  simp [writableAt, h]

theorem allReadable_of_frame {s t : State} (h : sameButDevices s t) (hr : allReadable s) : allReadable t := fun a =>
  (readableAt_congr (congrArg State.devices h) a).trans (hr a)

theorem atAddress_total {s : State} (hr : allReadable s) (loc : Word) (extra : Bool) (disp : Option Byte) :
    ∃ r t, atAddress loc extra disp s = .ok r t := by
  obtain ⟨m, t, h⟩ := busRead_readable (hr loc)
  exact ⟨⟨.addr loc, some m, extra, disp⟩, t, by simp only [atAddress, bind_apply, h, pure_apply]⟩

theorem readPointer_total {s : State} (hr : allReadable s) (l h : Word) : ∃ w t, readPointer l h s = .ok w t := by
  obtain ⟨m, t, h1⟩ := busRead_readable (hr l)
  obtain ⟨n, u, h2⟩ := busRead_readable (allReadable_of_frame (busRead_frame h1) hr h)
  exact ⟨word n m, u, by simp only [readPointer, bind_apply, h1, h2, pure_apply]⟩

/-- The resolver succeeds when a device owns every address. -/
theorem resolve_total {s : State} (hr : allReadable s) (o : Operand) : ∃ r t, resolve o s = .ok r t := by
  have ptr : ∀ (l h : Word) (f : Word → Op Resolved),
      (∀ w u, allReadable u → ∃ r t, f w u = .ok r t) → ∃ r t, (readPointer l h >>= f) s = .ok r t := by
    intro l h f hf
    obtain ⟨w, u, h1⟩ := readPointer_total hr l h
    obtain ⟨r, t, h2⟩ := hf w u (allReadable_of_frame (readPointer_frame h1) hr)
    exact ⟨r, t, by rw [bind_apply, h1]; exact h2⟩
  unfold resolve
  rw [bind_apply]
  cases o with
  | imp | acc | imm _ | rel _ | stack => exact ⟨_, _, rfl⟩
  | zp _ | zpx _ | zpy _ | abs _ | zprel _ _ => exact atAddress_total hr _ _ _
  | absx _ | absy _ => exact atAddress_total hr _ _ _
  | ind _ | indx _ | zpind _ | absindx _ => exact ptr _ _ _ fun w u hu => atAddress_total hu _ _ _
  | indy _ => exact ptr _ _ _ fun w u hu => atAddress_total hu _ _ _

/-- A store that succeeds changes A, or what a bus write changes. -/
theorem store_frame {s t : State} {loc : Loc} {v : Byte} (h : store loc v s = .ok () t) :
    t = { s with A := t.A, mem := t.mem, deviceLog := t.deviceLog } := by
  cases loc with
  | acc => cases h; rfl
  | none => cases h; rfl
  | addr a => rw [busWrite_frame h]

/-- A store to a location that accepts writes succeeds. -/
theorem store_total {s : State} {loc : Loc} (h : locWritable s loc) (v : Byte) : ∃ t, store loc v s = .ok () t := by
  cases loc with
  | acc | none => exact ⟨_, rfl⟩
  | addr a => exact busWrite_writable (h a rfl)

end Sys2Proof.Machine
end

