-- ==== Sys2Proof/Laws/Execute.lean ====
section
/-!
SUPPORT. What running an instruction can do (spec 30_encoding.md R320): it answers a next state exactly when the
resolver and the operation succeed, and then the countdown holds the cost.
-/

namespace Sys2Proof.Machine

/-- When the resolver and the operation succeed, so does the instruction. -/
theorem execute_next {i : Instr} {op : Byte} {operation : Resolved → Op Nat} {s s1 t : State} {r : Resolved} {adj : Nat}
    (hop : i.opcode? = some op) (hr : resolve i.operand s = .ok r s1) (ho : operation r s1 = .ok adj t) :
    execute i operation s = .next { t with countdown := cost t.params op r.extra adj } := by
  simp only [execute, hop, outcomeOf, resolveAndRun, bind_apply, hr, ho, loadCountdown_apply]

/-- A next state of an instruction comes from a resolver and an operation that succeed. -/
theorem execute_next_inv {i : Instr} {operation : Resolved → Op Nat} {s u : State}
    (h : execute i operation s = .next u) :
    ∃ op r s1 adj t, i.opcode? = some op ∧ resolve i.operand s = .ok r s1 ∧ operation r s1 = .ok adj t ∧
      u = { t with countdown := cost t.params op r.extra adj } := by
  unfold execute at h
  split at h
  · cases h
  · next op hop =>
    unfold outcomeOf at h
    split at h
    · next hx =>
      obtain ⟨r, s1, hr, hx⟩ := bind_ok hx
      obtain ⟨adj, t, ho, hx⟩ := bind_ok hx
      cases hx
      cases h
      exact ⟨op, r, s1, adj, t, hop, hr, ho, rfl⟩
    · cases h

/-- A write-protection fault of the operation is a fault of the instruction; every effect before it stands (R1230). -/
theorem execute_fault {i : Instr} {op : Byte} {operation : Resolved → Op Nat} {s s1 t : State} {r : Resolved}
    {e : BusError} (hop : i.opcode? = some op) (hr : resolve i.operand s = .ok r s1) (ho : operation r s1 = .error e t) :
    execute i operation s = .fault (e.fault t) := by
  simp only [execute, hop, outcomeOf, resolveAndRun, bind_apply, hr, ho]

/-- A fault of the resolver is a fault of the instruction. -/
theorem execute_resolve_fault {i : Instr} {op : Byte} {operation : Resolved → Op Nat} {s t : State}
    {e : BusError} (hop : i.opcode? = some op) (hr : resolve i.operand s = .error e t) :
    execute i operation s = .fault (e.fault t) := by
  simp only [execute, hop, outcomeOf, resolveAndRun, bind_apply, hr]

/-- Every instruction is `execute` of its own operation, from every state. -/
theorem exec_eq_execute (i : Instr) : ∃ operation, ∀ s, exec i s = execute i operation s := by
  cases i <;> first
    | exact ⟨_, fun _ => rfl⟩
    | exact ⟨_, fun _ => by
      simp only [exec, execTax, execTay, execTsx, execTxa, execTxs, execTya, execPha, execPhp, execPla, execPlp, execPhx, execPhy, execPlx,
      execPly, execInx, execIny, execDex, execDey, execRts, execClc, execCld, execCli, execClv, execSec, execSed,
      execSei, execNop, execBrk, execRti, execWai, execStp]
      rfl⟩

/-- A fault of the resolver is a fault of any instruction. -/
theorem exec_resolve_fault {i : Instr} {op : Byte} {s t : State} {e : BusError} (hop : i.opcode? = some op)
    (hr : resolve i.operand s = .error e t) : exec i s = .fault (e.fault t) := by
  obtain ⟨_, h⟩ := exec_eq_execute i
  rw [h]
  exact execute_resolve_fault hop hr

end Sys2Proof.Machine
end

