-- ==== Sys2Proof/Laws/Flags.lean ====
section
/-!
SUPPORT. The bits of P after each flag operation (spec 10_state.md R110, R114): each operation writes its own bits and
no other.
-/

namespace Sys2Proof

/-- A fact about the eight bits of a byte is a fact about every byte. -/
theorem putFlag_eq (mask : Byte) (v : Bool) (p : Byte) :
    putFlag mask v p = (p &&& ~~~mask) ||| (if v then mask else 0) := by
  cases v
  · simp [putFlag]
  · simp only [putFlag, if_true]
    ext i hi
    simp only [BitVec.getElem_or, BitVec.getElem_and, BitVec.getElem_not]
    cases p[i] <;> cases mask[i] <;> rfl

/-- Bits outside the mask are unchanged. -/
theorem putFlag_keeps (mask keep : Byte) (v : Bool) (p : Byte) (h : mask &&& keep = 0) :
    putFlag mask v p &&& keep = p &&& keep := by
  have hb : ∀ i (hi : i < 8), (mask[i] && keep[i]) = false := fun i hi => by
    have := congrArg (fun x : Byte => x[i]) h
    simpa using this
  ext i hi
  have hi' := hb i hi
  cases v
  · simp only [putFlag, Bool.false_eq_true, if_false, BitVec.getElem_and, BitVec.getElem_not]
    revert hi'
    cases p[i] <;> cases mask[i] <;> cases keep[i] <;> simp
  · simp only [putFlag, if_true, BitVec.getElem_and, BitVec.getElem_or]
    revert hi'
    cases p[i] <;> cases mask[i] <;> cases keep[i] <;> simp

theorem putFlag_bit (n : Nat) (mask : Byte) (v : Bool) (p : Byte) (hn : n < 8) :
    (putFlag mask v p).getLsbD n = if mask.getLsbD n then v else p.getLsbD n := by
  cases v
  · simp only [putFlag, Bool.false_eq_true, if_false, BitVec.getLsbD_and, BitVec.getLsbD_not]
    cases p.getLsbD n <;> cases mask.getLsbD n <;> simp [hn]
  · simp only [putFlag, if_true, BitVec.getLsbD_or]
    cases p.getLsbD n <;> cases mask.getLsbD n <;> simp

section
variable (v : Bool) (p : Byte)
@[simp] theorem flagC_setC : flagC (setC v p) = v :=
  putFlag_bit 0 maskC v p (by decide)
@[simp] theorem flagZ_setC : flagZ (setC v p) = flagZ p :=
  putFlag_bit 1 maskC v p (by decide)
@[simp] theorem flagI_setC : flagI (setC v p) = flagI p :=
  putFlag_bit 2 maskC v p (by decide)
@[simp] theorem flagD_setC : flagD (setC v p) = flagD p :=
  putFlag_bit 3 maskC v p (by decide)
@[simp] theorem flagB_setC : flagB (setC v p) = flagB p :=
  putFlag_bit 4 maskC v p (by decide)
@[simp] theorem flagU_setC : flagU (setC v p) = flagU p :=
  putFlag_bit 5 maskC v p (by decide)
@[simp] theorem flagV_setC : flagV (setC v p) = flagV p :=
  putFlag_bit 6 maskC v p (by decide)
@[simp] theorem flagN_setC : flagN (setC v p) = flagN p :=
  putFlag_bit 7 maskC v p (by decide)
@[simp] theorem flagC_setZ : flagC (setZ v p) = flagC p :=
  putFlag_bit 0 maskZ v p (by decide)
@[simp] theorem flagZ_setZ : flagZ (setZ v p) = v :=
  putFlag_bit 1 maskZ v p (by decide)
@[simp] theorem flagI_setZ : flagI (setZ v p) = flagI p :=
  putFlag_bit 2 maskZ v p (by decide)
@[simp] theorem flagD_setZ : flagD (setZ v p) = flagD p :=
  putFlag_bit 3 maskZ v p (by decide)
@[simp] theorem flagB_setZ : flagB (setZ v p) = flagB p :=
  putFlag_bit 4 maskZ v p (by decide)
@[simp] theorem flagU_setZ : flagU (setZ v p) = flagU p :=
  putFlag_bit 5 maskZ v p (by decide)
@[simp] theorem flagV_setZ : flagV (setZ v p) = flagV p :=
  putFlag_bit 6 maskZ v p (by decide)
@[simp] theorem flagN_setZ : flagN (setZ v p) = flagN p :=
  putFlag_bit 7 maskZ v p (by decide)
@[simp] theorem flagC_setI : flagC (setI v p) = flagC p :=
  putFlag_bit 0 maskI v p (by decide)
@[simp] theorem flagZ_setI : flagZ (setI v p) = flagZ p :=
  putFlag_bit 1 maskI v p (by decide)
@[simp] theorem flagI_setI : flagI (setI v p) = v :=
  putFlag_bit 2 maskI v p (by decide)
@[simp] theorem flagD_setI : flagD (setI v p) = flagD p :=
  putFlag_bit 3 maskI v p (by decide)
@[simp] theorem flagB_setI : flagB (setI v p) = flagB p :=
  putFlag_bit 4 maskI v p (by decide)
@[simp] theorem flagU_setI : flagU (setI v p) = flagU p :=
  putFlag_bit 5 maskI v p (by decide)
@[simp] theorem flagV_setI : flagV (setI v p) = flagV p :=
  putFlag_bit 6 maskI v p (by decide)
@[simp] theorem flagN_setI : flagN (setI v p) = flagN p :=
  putFlag_bit 7 maskI v p (by decide)
@[simp] theorem flagC_setD : flagC (setD v p) = flagC p :=
  putFlag_bit 0 maskD v p (by decide)
@[simp] theorem flagZ_setD : flagZ (setD v p) = flagZ p :=
  putFlag_bit 1 maskD v p (by decide)
@[simp] theorem flagI_setD : flagI (setD v p) = flagI p :=
  putFlag_bit 2 maskD v p (by decide)
@[simp] theorem flagD_setD : flagD (setD v p) = v :=
  putFlag_bit 3 maskD v p (by decide)
@[simp] theorem flagB_setD : flagB (setD v p) = flagB p :=
  putFlag_bit 4 maskD v p (by decide)
@[simp] theorem flagU_setD : flagU (setD v p) = flagU p :=
  putFlag_bit 5 maskD v p (by decide)
@[simp] theorem flagV_setD : flagV (setD v p) = flagV p :=
  putFlag_bit 6 maskD v p (by decide)
@[simp] theorem flagN_setD : flagN (setD v p) = flagN p :=
  putFlag_bit 7 maskD v p (by decide)
@[simp] theorem flagC_setV : flagC (setV v p) = flagC p :=
  putFlag_bit 0 maskV v p (by decide)
@[simp] theorem flagZ_setV : flagZ (setV v p) = flagZ p :=
  putFlag_bit 1 maskV v p (by decide)
@[simp] theorem flagI_setV : flagI (setV v p) = flagI p :=
  putFlag_bit 2 maskV v p (by decide)
@[simp] theorem flagD_setV : flagD (setV v p) = flagD p :=
  putFlag_bit 3 maskV v p (by decide)
@[simp] theorem flagB_setV : flagB (setV v p) = flagB p :=
  putFlag_bit 4 maskV v p (by decide)
@[simp] theorem flagU_setV : flagU (setV v p) = flagU p :=
  putFlag_bit 5 maskV v p (by decide)
@[simp] theorem flagV_setV : flagV (setV v p) = v :=
  putFlag_bit 6 maskV v p (by decide)
@[simp] theorem flagN_setV : flagN (setV v p) = flagN p :=
  putFlag_bit 7 maskV v p (by decide)
@[simp] theorem flagC_setN : flagC (setN v p) = flagC p :=
  putFlag_bit 0 maskN v p (by decide)
@[simp] theorem flagZ_setN : flagZ (setN v p) = flagZ p :=
  putFlag_bit 1 maskN v p (by decide)
@[simp] theorem flagI_setN : flagI (setN v p) = flagI p :=
  putFlag_bit 2 maskN v p (by decide)
@[simp] theorem flagD_setN : flagD (setN v p) = flagD p :=
  putFlag_bit 3 maskN v p (by decide)
@[simp] theorem flagB_setN : flagB (setN v p) = flagB p :=
  putFlag_bit 4 maskN v p (by decide)
@[simp] theorem flagU_setN : flagU (setN v p) = flagU p :=
  putFlag_bit 5 maskN v p (by decide)
@[simp] theorem flagV_setN : flagV (setN v p) = flagV p :=
  putFlag_bit 6 maskN v p (by decide)
@[simp] theorem flagN_setN : flagN (setN v p) = v :=
  putFlag_bit 7 maskN v p (by decide)
end

section
variable (v p : Byte)
@[simp] theorem flagC_setNZ : flagC (setNZ v p) = flagC p := by simp [setNZ]
@[simp] theorem flagZ_setNZ : flagZ (setNZ v p) = decide (v = 0) := by simp [setNZ]
@[simp] theorem flagI_setNZ : flagI (setNZ v p) = flagI p := by simp [setNZ]
@[simp] theorem flagD_setNZ : flagD (setNZ v p) = flagD p := by simp [setNZ]
@[simp] theorem flagB_setNZ : flagB (setNZ v p) = flagB p := by simp [setNZ]
@[simp] theorem flagU_setNZ : flagU (setNZ v p) = flagU p := by simp [setNZ]
@[simp] theorem flagV_setNZ : flagV (setNZ v p) = flagV p := by simp [setNZ]
@[simp] theorem flagN_setNZ : flagN (setNZ v p) = v.getLsbD 7 := by simp [setNZ]
end

section
variable (p : Byte)
@[simp] theorem flagC_imageSw : flagC (imageSw p) = flagC p := by
  simp [flagC, imageSw, maskB, maskU]
@[simp] theorem flagZ_imageSw : flagZ (imageSw p) = flagZ p := by
  simp [flagZ, imageSw, maskB, maskU]
@[simp] theorem flagI_imageSw : flagI (imageSw p) = flagI p := by
  simp [flagI, imageSw, maskB, maskU]
@[simp] theorem flagD_imageSw : flagD (imageSw p) = flagD p := by
  simp [flagD, imageSw, maskB, maskU]
@[simp] theorem flagB_imageSw : flagB (imageSw p) = true := by
  simp [flagB, imageSw, maskB, maskU]
@[simp] theorem flagU_imageSw : flagU (imageSw p) = true := by
  simp [flagU, imageSw, maskB, maskU]
@[simp] theorem flagV_imageSw : flagV (imageSw p) = flagV p := by
  simp [flagV, imageSw, maskB, maskU]
@[simp] theorem flagN_imageSw : flagN (imageSw p) = flagN p := by
  simp [flagN, imageSw, maskB, maskU]
@[simp] theorem flagC_imageHw : flagC (imageHw p) = flagC p := by
  simp [flagC, imageHw, maskB, maskU]
@[simp] theorem flagZ_imageHw : flagZ (imageHw p) = flagZ p := by
  simp [flagZ, imageHw, maskB, maskU]
@[simp] theorem flagI_imageHw : flagI (imageHw p) = flagI p := by
  simp [flagI, imageHw, maskB, maskU]
@[simp] theorem flagD_imageHw : flagD (imageHw p) = flagD p := by
  simp [flagD, imageHw, maskB, maskU]
@[simp] theorem flagB_imageHw : flagB (imageHw p) = false := by
  simp [flagB, imageHw, maskB, maskU]
@[simp] theorem flagU_imageHw : flagU (imageHw p) = true := by
  simp [flagU, imageHw, maskB, maskU]
@[simp] theorem flagV_imageHw : flagV (imageHw p) = flagV p := by
  simp [flagV, imageHw, maskB, maskU]
@[simp] theorem flagN_imageHw : flagN (imageHw p) = flagN p := by
  simp [flagN, imageHw, maskB, maskU]
@[simp] theorem flagC_loadedP : flagC (loadedP p) = flagC p := by
  simp [flagC, loadedP, maskU]
@[simp] theorem flagZ_loadedP : flagZ (loadedP p) = flagZ p := by
  simp [flagZ, loadedP, maskU]
@[simp] theorem flagI_loadedP : flagI (loadedP p) = flagI p := by
  simp [flagI, loadedP, maskU]
@[simp] theorem flagD_loadedP : flagD (loadedP p) = flagD p := by
  simp [flagD, loadedP, maskU]
@[simp] theorem flagB_loadedP : flagB (loadedP p) = flagB p := by
  simp [flagB, loadedP, maskU]
@[simp] theorem flagU_loadedP : flagU (loadedP p) = true := by
  simp [flagU, loadedP, maskU]
@[simp] theorem flagV_loadedP : flagV (loadedP p) = flagV p := by
  simp [flagV, loadedP, maskU]
@[simp] theorem flagN_loadedP : flagN (loadedP p) = flagN p := by
  simp [flagN, loadedP, maskU]
end

/-- Two values of P with the same eight flags are the same byte. -/
theorem flags_determine {p q : Byte} (hN : flagN p = flagN q) (hV : flagV p = flagV q) (hU : flagU p = flagU q)
    (hB : flagB p = flagB q) (hD : flagD p = flagD q) (hI : flagI p = flagI q) (hZ : flagZ p = flagZ q)
    (hC : flagC p = flagC q) : p = q := by
  apply BitVec.eq_of_getLsbD_eq
  intro i hi
  match i, hi with
  | 0, _ => exact hC
  | 1, _ => exact hZ
  | 2, _ => exact hI
  | 3, _ => exact hD
  | 4, _ => exact hB
  | 5, _ => exact hU
  | 6, _ => exact hV
  | 7, _ => exact hN
  | n + 8, h => omega

/-- `onlyFlags`-style fact from the flags outside a mask. -/
theorem setNZ_keeps (v p : Byte) : setNZ v p &&& ~~~(maskN ||| maskZ) = p &&& ~~~(maskN ||| maskZ) := by
  unfold setNZ setZ setN
  rw [putFlag_keeps _ _ _ _ (by decide), putFlag_keeps _ _ _ _ (by decide)]

end Sys2Proof
end

