-- ==== Sys2Proof/Laws/Listing.lean ====
section
/-!
SUPPORT. What reading a listing can do (spec 30_encoding.md R340): it changes nothing but what external devices have been
asked, a pull keeps the start and the limit, and a restart is the listing as it was started.
-/

namespace Sys2Proof.Machine

theorem readOperandBytes_frame {n : Nat} {a : Word} {s t : State} {b : Byte × Byte}
    (h : readOperandBytes n a s = .ok b t) : sameButDevices s t := by
  match n with
  | 0 => cases h; rfl
  | 1 =>
    obtain ⟨_, u, h1, h⟩ := bind_ok h
    cases h
    exact busRead_frame h1
  | n + 2 =>
    obtain ⟨_, u, h1, h⟩ := bind_ok h
    obtain ⟨_, v, h2, h⟩ := bind_ok h
    cases h
    rw [busRead_frame h2, busRead_frame h1]

theorem readOperandBytes_error {n : Nat} {a : Word} {s t : State} {e : BusError}
    (h : readOperandBytes n a s = .error e t) : sameButDevices s t := by
  match n with
  | 0 => cases h
  | 1 =>
    rcases bind_error h with h1 | ⟨_, u, _, h2⟩
    · rw [(busRead_error h1).1]
    · cases h2
  | n + 2 =>
    rcases bind_error h with h1 | ⟨_, u, h1, h2⟩
    · rw [(busRead_error h1).1]
    · rcases bind_error h2 with h2 | ⟨_, v, _, h3⟩
      · rw [(busRead_error h2).1]
        exact busRead_frame h1
      · cases h3

/-- What one entry can change. -/
theorem listEntry_frame {a : Word} {s t : State} {x : (Word × List Char) × Word} (h : listEntry a s = .ok x t) :
    sameButDevices s t := by
  obtain ⟨_, u, h0, h⟩ := bind_ok h
  obtain ⟨_, v, h1, h⟩ := bind_ok h
  cases h
  rw [readOperandBytes_frame h1, busRead_frame h0]

/-- What an entry that ends in an error can change. -/
theorem listEntry_error {a : Word} {s t : State} {e : BusError} (h : listEntry a s = .error e t) :
    sameButDevices s t := by
  rcases bind_error h with h0 | ⟨_, u, h0, h1⟩
  · rw [(busRead_error h0).1]
  · rcases bind_error h1 with h1 | ⟨_, v, _, h2⟩
    · rw [readOperandBytes_error h1, busRead_frame h0]
    · cases h2

/-- What a pull can change in the state. -/
theorem pull_sameButDevices (l : Listing) (s : State) : sameButDevices s (l.pull s).2 := by
  unfold Listing.pull
  split
  · rfl
  · split
    · next h => exact listEntry_frame h
    · next h => exact listEntry_error h
    · next h => exact listEntry_error h

/-- A pull keeps the start and the limit. -/
theorem pull_start_limit (l : Listing) (s : State) :
    (l.pull s).1.start = l.start ∧ (l.pull s).1.limit = l.limit := by
  unfold Listing.pull
  split
  · exact ⟨rfl, rfl⟩
  · split <;> exact ⟨rfl, rfl⟩

/-- A restarted listing is the listing as it was started (R340: "each restart begins again at that address"). -/
@[simp] theorem restarted_started (n : Int) (a : Word) : (Listing.started n a).restarted = Listing.started n a := rfl

end Sys2Proof.Machine
end

