-- ==== Sys2Proof/Laws/PerInstr.lean ====
section
/-!
SUPPORT. Facts about every instruction as syntax, one lemma for each constructor.
-/

namespace Sys2Proof.Laws.OpcodeRow

/-- The opcode byte that an instruction's own rule gives it (files 41 to 47, R311) is the row of the dispatch table of
R310 with its operation and its mode, and a term has such a byte exactly when it is well formed. -/
def Statement (i : Instr) : Prop :=
  i.wf = i.opcode?.isSome ∧
    match i.opcode? with
    | none => True
    | some op => (tableEntry op).operation = i.operation ∧ (tableEntry op).mode = i.operand.mode

/-- The table has UNDEF with R311's mode at the 44 undefined bytes. -/
theorem undef_row : ∀ op : Byte, ∀ m ∈ undefMode op, (tableEntry op).operation = .UNDEF ∧ (tableEntry op).mode = m := by
  decide +kernel

theorem lda (o : Operand) : Statement (.lda o) := by
  cases o <;> exact ⟨rfl, by first | exact True.intro | exact ⟨rfl, rfl⟩⟩
theorem ldx (o : Operand) : Statement (.ldx o) := by
  cases o <;> exact ⟨rfl, by first | exact True.intro | exact ⟨rfl, rfl⟩⟩
theorem ldy (o : Operand) : Statement (.ldy o) := by
  cases o <;> exact ⟨rfl, by first | exact True.intro | exact ⟨rfl, rfl⟩⟩
theorem sta (o : Operand) : Statement (.sta o) := by
  cases o <;> exact ⟨rfl, by first | exact True.intro | exact ⟨rfl, rfl⟩⟩
theorem stx (o : Operand) : Statement (.stx o) := by
  cases o <;> exact ⟨rfl, by first | exact True.intro | exact ⟨rfl, rfl⟩⟩
theorem sty (o : Operand) : Statement (.sty o) := by
  cases o <;> exact ⟨rfl, by first | exact True.intro | exact ⟨rfl, rfl⟩⟩
theorem stz (o : Operand) : Statement (.stz o) := by
  cases o <;> exact ⟨rfl, by first | exact True.intro | exact ⟨rfl, rfl⟩⟩
theorem tax : Statement (.tax) := ⟨rfl, rfl, rfl⟩
theorem tay : Statement (.tay) := ⟨rfl, rfl, rfl⟩
theorem tsx : Statement (.tsx) := ⟨rfl, rfl, rfl⟩
theorem txa : Statement (.txa) := ⟨rfl, rfl, rfl⟩
theorem txs : Statement (.txs) := ⟨rfl, rfl, rfl⟩
theorem tya : Statement (.tya) := ⟨rfl, rfl, rfl⟩
theorem pha : Statement (.pha) := ⟨rfl, rfl, rfl⟩
theorem php : Statement (.php) := ⟨rfl, rfl, rfl⟩
theorem pla : Statement (.pla) := ⟨rfl, rfl, rfl⟩
theorem plp : Statement (.plp) := ⟨rfl, rfl, rfl⟩
theorem phx : Statement (.phx) := ⟨rfl, rfl, rfl⟩
theorem phy : Statement (.phy) := ⟨rfl, rfl, rfl⟩
theorem plx : Statement (.plx) := ⟨rfl, rfl, rfl⟩
theorem ply : Statement (.ply) := ⟨rfl, rfl, rfl⟩
theorem adc (o : Operand) : Statement (.adc o) := by
  cases o <;> exact ⟨rfl, by first | exact True.intro | exact ⟨rfl, rfl⟩⟩
theorem sbc (o : Operand) : Statement (.sbc o) := by
  cases o <;> exact ⟨rfl, by first | exact True.intro | exact ⟨rfl, rfl⟩⟩
theorem cmp (o : Operand) : Statement (.cmp o) := by
  cases o <;> exact ⟨rfl, by first | exact True.intro | exact ⟨rfl, rfl⟩⟩
theorem cpx (o : Operand) : Statement (.cpx o) := by
  cases o <;> exact ⟨rfl, by first | exact True.intro | exact ⟨rfl, rfl⟩⟩
theorem cpy (o : Operand) : Statement (.cpy o) := by
  cases o <;> exact ⟨rfl, by first | exact True.intro | exact ⟨rfl, rfl⟩⟩
theorem inc (o : Operand) : Statement (.inc o) := by
  cases o <;> exact ⟨rfl, by first | exact True.intro | exact ⟨rfl, rfl⟩⟩
theorem dec (o : Operand) : Statement (.dec o) := by
  cases o <;> exact ⟨rfl, by first | exact True.intro | exact ⟨rfl, rfl⟩⟩
theorem inx : Statement (.inx) := ⟨rfl, rfl, rfl⟩
theorem iny : Statement (.iny) := ⟨rfl, rfl, rfl⟩
theorem dex : Statement (.dex) := ⟨rfl, rfl, rfl⟩
theorem dey : Statement (.dey) := ⟨rfl, rfl, rfl⟩
theorem and (o : Operand) : Statement (.and o) := by
  cases o <;> exact ⟨rfl, by first | exact True.intro | exact ⟨rfl, rfl⟩⟩
theorem ora (o : Operand) : Statement (.ora o) := by
  cases o <;> exact ⟨rfl, by first | exact True.intro | exact ⟨rfl, rfl⟩⟩
theorem eor (o : Operand) : Statement (.eor o) := by
  cases o <;> exact ⟨rfl, by first | exact True.intro | exact ⟨rfl, rfl⟩⟩
theorem bit (o : Operand) : Statement (.bit o) := by
  cases o <;> exact ⟨rfl, by first | exact True.intro | exact ⟨rfl, rfl⟩⟩
theorem trb (o : Operand) : Statement (.trb o) := by
  cases o <;> exact ⟨rfl, by first | exact True.intro | exact ⟨rfl, rfl⟩⟩
theorem tsb (o : Operand) : Statement (.tsb o) := by
  cases o <;> exact ⟨rfl, by first | exact True.intro | exact ⟨rfl, rfl⟩⟩
theorem rmb0 (zp : Byte) : Statement (.rmb0 zp) := ⟨rfl, rfl, rfl⟩
theorem rmb1 (zp : Byte) : Statement (.rmb1 zp) := ⟨rfl, rfl, rfl⟩
theorem rmb2 (zp : Byte) : Statement (.rmb2 zp) := ⟨rfl, rfl, rfl⟩
theorem rmb3 (zp : Byte) : Statement (.rmb3 zp) := ⟨rfl, rfl, rfl⟩
theorem rmb4 (zp : Byte) : Statement (.rmb4 zp) := ⟨rfl, rfl, rfl⟩
theorem rmb5 (zp : Byte) : Statement (.rmb5 zp) := ⟨rfl, rfl, rfl⟩
theorem rmb6 (zp : Byte) : Statement (.rmb6 zp) := ⟨rfl, rfl, rfl⟩
theorem rmb7 (zp : Byte) : Statement (.rmb7 zp) := ⟨rfl, rfl, rfl⟩
theorem smb0 (zp : Byte) : Statement (.smb0 zp) := ⟨rfl, rfl, rfl⟩
theorem smb1 (zp : Byte) : Statement (.smb1 zp) := ⟨rfl, rfl, rfl⟩
theorem smb2 (zp : Byte) : Statement (.smb2 zp) := ⟨rfl, rfl, rfl⟩
theorem smb3 (zp : Byte) : Statement (.smb3 zp) := ⟨rfl, rfl, rfl⟩
theorem smb4 (zp : Byte) : Statement (.smb4 zp) := ⟨rfl, rfl, rfl⟩
theorem smb5 (zp : Byte) : Statement (.smb5 zp) := ⟨rfl, rfl, rfl⟩
theorem smb6 (zp : Byte) : Statement (.smb6 zp) := ⟨rfl, rfl, rfl⟩
theorem smb7 (zp : Byte) : Statement (.smb7 zp) := ⟨rfl, rfl, rfl⟩
theorem asl (o : Operand) : Statement (.asl o) := by
  cases o <;> exact ⟨rfl, by first | exact True.intro | exact ⟨rfl, rfl⟩⟩
theorem lsr (o : Operand) : Statement (.lsr o) := by
  cases o <;> exact ⟨rfl, by first | exact True.intro | exact ⟨rfl, rfl⟩⟩
theorem rol (o : Operand) : Statement (.rol o) := by
  cases o <;> exact ⟨rfl, by first | exact True.intro | exact ⟨rfl, rfl⟩⟩
theorem ror (o : Operand) : Statement (.ror o) := by
  cases o <;> exact ⟨rfl, by first | exact True.intro | exact ⟨rfl, rfl⟩⟩
theorem bpl (disp : Byte) : Statement (.bpl disp) := ⟨rfl, rfl, rfl⟩
theorem bmi (disp : Byte) : Statement (.bmi disp) := ⟨rfl, rfl, rfl⟩
theorem bvc (disp : Byte) : Statement (.bvc disp) := ⟨rfl, rfl, rfl⟩
theorem bvs (disp : Byte) : Statement (.bvs disp) := ⟨rfl, rfl, rfl⟩
theorem bcc (disp : Byte) : Statement (.bcc disp) := ⟨rfl, rfl, rfl⟩
theorem bcs (disp : Byte) : Statement (.bcs disp) := ⟨rfl, rfl, rfl⟩
theorem bne (disp : Byte) : Statement (.bne disp) := ⟨rfl, rfl, rfl⟩
theorem beq (disp : Byte) : Statement (.beq disp) := ⟨rfl, rfl, rfl⟩
theorem bra (disp : Byte) : Statement (.bra disp) := ⟨rfl, rfl, rfl⟩
theorem bbr0 (zp disp : Byte) : Statement (.bbr0 zp disp) := ⟨rfl, rfl, rfl⟩
theorem bbr1 (zp disp : Byte) : Statement (.bbr1 zp disp) := ⟨rfl, rfl, rfl⟩
theorem bbr2 (zp disp : Byte) : Statement (.bbr2 zp disp) := ⟨rfl, rfl, rfl⟩
theorem bbr3 (zp disp : Byte) : Statement (.bbr3 zp disp) := ⟨rfl, rfl, rfl⟩
theorem bbr4 (zp disp : Byte) : Statement (.bbr4 zp disp) := ⟨rfl, rfl, rfl⟩
theorem bbr5 (zp disp : Byte) : Statement (.bbr5 zp disp) := ⟨rfl, rfl, rfl⟩
theorem bbr6 (zp disp : Byte) : Statement (.bbr6 zp disp) := ⟨rfl, rfl, rfl⟩
theorem bbr7 (zp disp : Byte) : Statement (.bbr7 zp disp) := ⟨rfl, rfl, rfl⟩
theorem bbs0 (zp disp : Byte) : Statement (.bbs0 zp disp) := ⟨rfl, rfl, rfl⟩
theorem bbs1 (zp disp : Byte) : Statement (.bbs1 zp disp) := ⟨rfl, rfl, rfl⟩
theorem bbs2 (zp disp : Byte) : Statement (.bbs2 zp disp) := ⟨rfl, rfl, rfl⟩
theorem bbs3 (zp disp : Byte) : Statement (.bbs3 zp disp) := ⟨rfl, rfl, rfl⟩
theorem bbs4 (zp disp : Byte) : Statement (.bbs4 zp disp) := ⟨rfl, rfl, rfl⟩
theorem bbs5 (zp disp : Byte) : Statement (.bbs5 zp disp) := ⟨rfl, rfl, rfl⟩
theorem bbs6 (zp disp : Byte) : Statement (.bbs6 zp disp) := ⟨rfl, rfl, rfl⟩
theorem bbs7 (zp disp : Byte) : Statement (.bbs7 zp disp) := ⟨rfl, rfl, rfl⟩
theorem jmp (o : Operand) : Statement (.jmp o) := by
  cases o <;> exact ⟨rfl, by first | exact True.intro | exact ⟨rfl, rfl⟩⟩
theorem jsr (target : Word) : Statement (.jsr target) := ⟨rfl, rfl, rfl⟩
theorem rts : Statement (.rts) := ⟨rfl, rfl, rfl⟩
theorem clc : Statement (.clc) := ⟨rfl, rfl, rfl⟩
theorem cld : Statement (.cld) := ⟨rfl, rfl, rfl⟩
theorem cli : Statement (.cli) := ⟨rfl, rfl, rfl⟩
theorem clv : Statement (.clv) := ⟨rfl, rfl, rfl⟩
theorem sec : Statement (.sec) := ⟨rfl, rfl, rfl⟩
theorem sed : Statement (.sed) := ⟨rfl, rfl, rfl⟩
theorem sei : Statement (.sei) := ⟨rfl, rfl, rfl⟩
theorem nop : Statement (.nop) := ⟨rfl, rfl, rfl⟩
theorem undef (op : Byte) (o : Operand) : Statement (.undef op o) := by
  by_cases h : undefMode op = some o.mode
  · refine ⟨by simp [Instr.wf, Instr.opcode?, h], ?_⟩
    simp only [Instr.opcode?, h, if_true]
    exact undef_row op o.mode h
  · refine ⟨by simp [Instr.wf, Instr.opcode?, h], ?_⟩
    simp only [Instr.opcode?, h, if_false]
theorem brk : Statement (.brk) := ⟨rfl, rfl, rfl⟩
theorem rti : Statement (.rti) := ⟨rfl, rfl, rfl⟩
theorem wai : Statement (.wai) := ⟨rfl, rfl, rfl⟩
theorem stp : Statement (.stp) := ⟨rfl, rfl, rfl⟩

end Sys2Proof.Laws.OpcodeRow
end

