-- ==== Sys2Proof/Tests/Slice0.lean ====
section
/-!
SUPPORT. The model's own tests. The expected results come from the spec: the words from opcode_table.json and R310, R311
(30_encoding.md), the runs from the vectors of 95_test_vectors.md (each test names its vector) and, for the bits no
vector names, from R807, R808, R1019 and R1020. Then, for every statement that has hypotheses, a witness that meets them.
-/

namespace Sys2Proof.Tests

open Sys2Proof Sys2Proof.Machine

/-- An idle core after reset with bytes at PC and bytes elsewhere, over RAM. -/
def startAt (pc : Word) (bytes : List Byte) (others : List (Nat × Byte)) : State :=
  { State.reset with
    PC := pc
    countdown := 0
    mem := others.foldl (fun m c => Memory.write (.fill 0) m c.1 c.2) (Memory.writeAll (.fill 0) [] pc.toNat bytes) }

/-- What the host sees after one step. -/
def after (s : State) : Option HostView :=
  match step s with
  | .next t => some (hostView t)
  | .fault _ => none
  | .refused _ => none

/-- The bytes at some addresses after one step. -/
def bytesAfter (s : State) (addrs : List Word) : Option (List Byte) :=
  match step s with
  | .next t => some (addrs.map t.byteAt)
  | .fault _ => none
  | .refused _ => none

/-- The state a faulted step leaves. -/
def left (s : State) : Option State :=
  match step s with
  | .next _ => none
  | .fault (.addressError _ t) => some t
  | .fault (.writeProtectionError _ t) => some t
  | .fault (.configurationError _ t) => some t
  | .refused _ => none

/-- The state after several steps. -/
def steps : Nat → State → Option State
  | 0, s => some s
  | n + 1, s =>
    match step s with
    | .next t => steps n t
    | .fault _ => none
    | .refused _ => none

/-! ## WellFormed: an ill-formed term for each check, refused -/

theorem test_wf_lda : (Instr.lda .acc).wf = false ∧
    exec (.lda .acc) State.reset = .refused .illFormed := ⟨by decide, rfl⟩
theorem test_wf_ldx : (Instr.ldx .acc).wf = false ∧
    exec (.ldx .acc) State.reset = .refused .illFormed := ⟨by decide, rfl⟩
theorem test_wf_ldy : (Instr.ldy .acc).wf = false ∧
    exec (.ldy .acc) State.reset = .refused .illFormed := ⟨by decide, rfl⟩
theorem test_wf_sta : (Instr.sta (.imm 0x12)).wf = false ∧
    exec (.sta (.imm 0x12)) State.reset = .refused .illFormed := ⟨by decide, rfl⟩
theorem test_wf_stx : (Instr.stx (.imm 0x12)).wf = false ∧
    exec (.stx (.imm 0x12)) State.reset = .refused .illFormed := ⟨by decide, rfl⟩
theorem test_wf_sty : (Instr.sty (.imm 0x12)).wf = false ∧
    exec (.sty (.imm 0x12)) State.reset = .refused .illFormed := ⟨by decide, rfl⟩
theorem test_wf_stz : (Instr.stz (.imm 0x12)).wf = false ∧
    exec (.stz (.imm 0x12)) State.reset = .refused .illFormed := ⟨by decide, rfl⟩
theorem test_wf_adc : (Instr.adc .acc).wf = false ∧
    exec (.adc .acc) State.reset = .refused .illFormed := ⟨by decide, rfl⟩
theorem test_wf_sbc : (Instr.sbc .acc).wf = false ∧
    exec (.sbc .acc) State.reset = .refused .illFormed := ⟨by decide, rfl⟩
theorem test_wf_cmp : (Instr.cmp .acc).wf = false ∧
    exec (.cmp .acc) State.reset = .refused .illFormed := ⟨by decide, rfl⟩
theorem test_wf_cpx : (Instr.cpx .acc).wf = false ∧
    exec (.cpx .acc) State.reset = .refused .illFormed := ⟨by decide, rfl⟩
theorem test_wf_cpy : (Instr.cpy .acc).wf = false ∧
    exec (.cpy .acc) State.reset = .refused .illFormed := ⟨by decide, rfl⟩
theorem test_wf_inc : (Instr.inc (.imm 0x12)).wf = false ∧
    exec (.inc (.imm 0x12)) State.reset = .refused .illFormed := ⟨by decide, rfl⟩
theorem test_wf_dec : (Instr.dec (.imm 0x12)).wf = false ∧
    exec (.dec (.imm 0x12)) State.reset = .refused .illFormed := ⟨by decide, rfl⟩
theorem test_wf_and : (Instr.and .acc).wf = false ∧
    exec (.and .acc) State.reset = .refused .illFormed := ⟨by decide, rfl⟩
theorem test_wf_ora : (Instr.ora .acc).wf = false ∧
    exec (.ora .acc) State.reset = .refused .illFormed := ⟨by decide, rfl⟩
theorem test_wf_eor : (Instr.eor .acc).wf = false ∧
    exec (.eor .acc) State.reset = .refused .illFormed := ⟨by decide, rfl⟩
theorem test_wf_bit : (Instr.bit .acc).wf = false ∧
    exec (.bit .acc) State.reset = .refused .illFormed := ⟨by decide, rfl⟩
theorem test_wf_trb : (Instr.trb (.imm 0x12)).wf = false ∧
    exec (.trb (.imm 0x12)) State.reset = .refused .illFormed := ⟨by decide, rfl⟩
theorem test_wf_tsb : (Instr.tsb (.imm 0x12)).wf = false ∧
    exec (.tsb (.imm 0x12)) State.reset = .refused .illFormed := ⟨by decide, rfl⟩
theorem test_wf_asl : (Instr.asl (.imm 0x12)).wf = false ∧
    exec (.asl (.imm 0x12)) State.reset = .refused .illFormed := ⟨by decide, rfl⟩
theorem test_wf_lsr : (Instr.lsr (.imm 0x12)).wf = false ∧
    exec (.lsr (.imm 0x12)) State.reset = .refused .illFormed := ⟨by decide, rfl⟩
theorem test_wf_rol : (Instr.rol (.imm 0x12)).wf = false ∧
    exec (.rol (.imm 0x12)) State.reset = .refused .illFormed := ⟨by decide, rfl⟩
theorem test_wf_ror : (Instr.ror (.imm 0x12)).wf = false ∧
    exec (.ror (.imm 0x12)) State.reset = .refused .illFormed := ⟨by decide, rfl⟩
theorem test_wf_jmp : (Instr.jmp (.imm 0x12)).wf = false ∧
    exec (.jmp (.imm 0x12)) State.reset = .refused .illFormed := ⟨by decide, rfl⟩
/-- R311 gives 0x44 the mode ZP, and 0xA9 is a defined opcode. -/
theorem test_wf_undef : (Instr.undef 0x44 .imp).wf = false ∧ (Instr.undef 0xA9 (.imm 0x12)).wf = false ∧
    exec (.undef 0x44 .imp) State.reset = .refused .illFormed := ⟨by decide, by decide, rfl⟩

/-! ## Decoding: every row of the opcode table, byte 1 = 0x12 and byte 2 = 0x34 -/

/-- Loads and stores (41_load_store.md). The first word is written bit by bit. -/
theorem test_decode_loads_and_stores_1 :
    decodeTableWord 16 0b0001001010100001 = some (.lda (.indx 0x12)) ∧
    decodeTableWord 16 0x12A5 = some (.lda (.zp 0x12)) ∧
    decodeTableWord 16 0x12A9 = some (.lda (.imm 0x12)) ∧
    decodeTableWord 24 0x3412AD = some (.lda (.abs 0x3412)) ∧
    decodeTableWord 16 0x12B1 = some (.lda (.indy 0x12)) ∧
    decodeTableWord 16 0x12B2 = some (.lda (.zpind 0x12)) ∧
    decodeTableWord 16 0x12B5 = some (.lda (.zpx 0x12)) ∧
    decodeTableWord 24 0x3412B9 = some (.lda (.absy 0x3412)) ∧
    decodeTableWord 24 0x3412BD = some (.lda (.absx 0x3412)) ∧
    decodeTableWord 16 0x12A2 = some (.ldx (.imm 0x12)) ∧
    decodeTableWord 16 0x12A6 = some (.ldx (.zp 0x12)) ∧
    decodeTableWord 24 0x3412AE = some (.ldx (.abs 0x3412)) ∧
    decodeTableWord 16 0x12B6 = some (.ldx (.zpy 0x12)) ∧
    decodeTableWord 24 0x3412BE = some (.ldx (.absy 0x3412)) ∧
    decodeTableWord 16 0x12A0 = some (.ldy (.imm 0x12)) ∧
    decodeTableWord 16 0x12A4 = some (.ldy (.zp 0x12)) ∧
    decodeTableWord 24 0x3412AC = some (.ldy (.abs 0x3412)) ∧
    decodeTableWord 16 0x12B4 = some (.ldy (.zpx 0x12)) ∧
    decodeTableWord 24 0x3412BC = some (.ldy (.absx 0x3412)) ∧
    decodeTableWord 16 0x1281 = some (.sta (.indx 0x12)) ∧
    decodeTableWord 16 0x1285 = some (.sta (.zp 0x12)) ∧
    decodeTableWord 24 0x34128D = some (.sta (.abs 0x3412)) ∧
    decodeTableWord 16 0x1291 = some (.sta (.indy 0x12)) ∧
    decodeTableWord 16 0x1292 = some (.sta (.zpind 0x12)) ∧
    decodeTableWord 16 0x1295 = some (.sta (.zpx 0x12)) ∧
    decodeTableWord 24 0x341299 = some (.sta (.absy 0x3412)) ∧
    decodeTableWord 24 0x34129D = some (.sta (.absx 0x3412)) ∧
    decodeTableWord 16 0x1286 = some (.stx (.zp 0x12)) ∧
    decodeTableWord 24 0x34128E = some (.stx (.abs 0x3412)) ∧
    decodeTableWord 16 0x1296 = some (.stx (.zpy 0x12)) := by decide

theorem test_decode_loads_and_stores_2 :
    decodeTableWord 16 0x1284 = some (.sty (.zp 0x12)) ∧
    decodeTableWord 24 0x34128C = some (.sty (.abs 0x3412)) ∧
    decodeTableWord 16 0x1294 = some (.sty (.zpx 0x12)) ∧
    decodeTableWord 16 0x1264 = some (.stz (.zp 0x12)) ∧
    decodeTableWord 16 0x1274 = some (.stz (.zpx 0x12)) ∧
    decodeTableWord 24 0x34129C = some (.stz (.abs 0x3412)) ∧
    decodeTableWord 24 0x34129E = some (.stz (.absx 0x3412)) := by decide

/-- Register transfers, pushes and pulls (42_transfer_stack.md). The first word is written bit by bit. -/
theorem test_decode_transfers :
    decodeTableWord 8 0b10101010 = some (.tax) ∧
    decodeTableWord 8 0xA8 = some (.tay) ∧
    decodeTableWord 8 0xBA = some (.tsx) ∧
    decodeTableWord 8 0x8A = some (.txa) ∧
    decodeTableWord 8 0x9A = some (.txs) ∧
    decodeTableWord 8 0x98 = some (.tya) ∧
    decodeTableWord 8 0x48 = some (.pha) ∧
    decodeTableWord 8 0x08 = some (.php) ∧
    decodeTableWord 8 0x68 = some (.pla) ∧
    decodeTableWord 8 0x28 = some (.plp) ∧
    decodeTableWord 8 0xDA = some (.phx) ∧
    decodeTableWord 8 0x5A = some (.phy) ∧
    decodeTableWord 8 0xFA = some (.plx) ∧
    decodeTableWord 8 0x7A = some (.ply) := by decide

/-- Arithmetic (43_arithmetic.md). The first word is written bit by bit. -/
theorem test_decode_arithmetic_1 :
    decodeTableWord 16 0b0001001001100001 = some (.adc (.indx 0x12)) ∧
    decodeTableWord 16 0x1265 = some (.adc (.zp 0x12)) ∧
    decodeTableWord 16 0x1269 = some (.adc (.imm 0x12)) ∧
    decodeTableWord 24 0x34126D = some (.adc (.abs 0x3412)) ∧
    decodeTableWord 16 0x1271 = some (.adc (.indy 0x12)) ∧
    decodeTableWord 16 0x1272 = some (.adc (.zpind 0x12)) ∧
    decodeTableWord 16 0x1275 = some (.adc (.zpx 0x12)) ∧
    decodeTableWord 24 0x341279 = some (.adc (.absy 0x3412)) ∧
    decodeTableWord 24 0x34127D = some (.adc (.absx 0x3412)) ∧
    decodeTableWord 16 0x12E1 = some (.sbc (.indx 0x12)) ∧
    decodeTableWord 16 0x12E5 = some (.sbc (.zp 0x12)) ∧
    decodeTableWord 16 0x12E9 = some (.sbc (.imm 0x12)) ∧
    decodeTableWord 24 0x3412ED = some (.sbc (.abs 0x3412)) ∧
    decodeTableWord 16 0x12F1 = some (.sbc (.indy 0x12)) ∧
    decodeTableWord 16 0x12F2 = some (.sbc (.zpind 0x12)) ∧
    decodeTableWord 16 0x12F5 = some (.sbc (.zpx 0x12)) ∧
    decodeTableWord 24 0x3412F9 = some (.sbc (.absy 0x3412)) ∧
    decodeTableWord 24 0x3412FD = some (.sbc (.absx 0x3412)) ∧
    decodeTableWord 16 0x12C1 = some (.cmp (.indx 0x12)) ∧
    decodeTableWord 16 0x12C5 = some (.cmp (.zp 0x12)) ∧
    decodeTableWord 16 0x12C9 = some (.cmp (.imm 0x12)) ∧
    decodeTableWord 24 0x3412CD = some (.cmp (.abs 0x3412)) ∧
    decodeTableWord 16 0x12D1 = some (.cmp (.indy 0x12)) ∧
    decodeTableWord 16 0x12D2 = some (.cmp (.zpind 0x12)) ∧
    decodeTableWord 16 0x12D5 = some (.cmp (.zpx 0x12)) ∧
    decodeTableWord 24 0x3412D9 = some (.cmp (.absy 0x3412)) ∧
    decodeTableWord 24 0x3412DD = some (.cmp (.absx 0x3412)) ∧
    decodeTableWord 16 0x12E0 = some (.cpx (.imm 0x12)) ∧
    decodeTableWord 16 0x12E4 = some (.cpx (.zp 0x12)) ∧
    decodeTableWord 24 0x3412EC = some (.cpx (.abs 0x3412)) := by decide

theorem test_decode_arithmetic_2 :
    decodeTableWord 16 0x12C0 = some (.cpy (.imm 0x12)) ∧
    decodeTableWord 16 0x12C4 = some (.cpy (.zp 0x12)) ∧
    decodeTableWord 24 0x3412CC = some (.cpy (.abs 0x3412)) ∧
    decodeTableWord 8 0x1A = some (.inc .acc) ∧
    decodeTableWord 16 0x12E6 = some (.inc (.zp 0x12)) ∧
    decodeTableWord 24 0x3412EE = some (.inc (.abs 0x3412)) ∧
    decodeTableWord 16 0x12F6 = some (.inc (.zpx 0x12)) ∧
    decodeTableWord 24 0x3412FE = some (.inc (.absx 0x3412)) ∧
    decodeTableWord 8 0x3A = some (.dec .acc) ∧
    decodeTableWord 16 0x12C6 = some (.dec (.zp 0x12)) ∧
    decodeTableWord 24 0x3412CE = some (.dec (.abs 0x3412)) ∧
    decodeTableWord 16 0x12D6 = some (.dec (.zpx 0x12)) ∧
    decodeTableWord 24 0x3412DE = some (.dec (.absx 0x3412)) ∧
    decodeTableWord 8 0xE8 = some (.inx) ∧
    decodeTableWord 8 0xC8 = some (.iny) ∧
    decodeTableWord 8 0xCA = some (.dex) ∧
    decodeTableWord 8 0x88 = some (.dey) := by decide

/-- Logical and bit operations (44_logic_bit.md). The first word is written bit by bit. -/
theorem test_decode_logic_1 :
    decodeTableWord 16 0b0001001000100001 = some (.and (.indx 0x12)) ∧
    decodeTableWord 16 0x1225 = some (.and (.zp 0x12)) ∧
    decodeTableWord 16 0x1229 = some (.and (.imm 0x12)) ∧
    decodeTableWord 24 0x34122D = some (.and (.abs 0x3412)) ∧
    decodeTableWord 16 0x1231 = some (.and (.indy 0x12)) ∧
    decodeTableWord 16 0x1232 = some (.and (.zpind 0x12)) ∧
    decodeTableWord 16 0x1235 = some (.and (.zpx 0x12)) ∧
    decodeTableWord 24 0x341239 = some (.and (.absy 0x3412)) ∧
    decodeTableWord 24 0x34123D = some (.and (.absx 0x3412)) ∧
    decodeTableWord 16 0x1201 = some (.ora (.indx 0x12)) ∧
    decodeTableWord 16 0x1205 = some (.ora (.zp 0x12)) ∧
    decodeTableWord 16 0x1209 = some (.ora (.imm 0x12)) ∧
    decodeTableWord 24 0x34120D = some (.ora (.abs 0x3412)) ∧
    decodeTableWord 16 0x1211 = some (.ora (.indy 0x12)) ∧
    decodeTableWord 16 0x1212 = some (.ora (.zpind 0x12)) ∧
    decodeTableWord 16 0x1215 = some (.ora (.zpx 0x12)) ∧
    decodeTableWord 24 0x341219 = some (.ora (.absy 0x3412)) ∧
    decodeTableWord 24 0x34121D = some (.ora (.absx 0x3412)) ∧
    decodeTableWord 16 0x1241 = some (.eor (.indx 0x12)) ∧
    decodeTableWord 16 0x1245 = some (.eor (.zp 0x12)) ∧
    decodeTableWord 16 0x1249 = some (.eor (.imm 0x12)) ∧
    decodeTableWord 24 0x34124D = some (.eor (.abs 0x3412)) ∧
    decodeTableWord 16 0x1251 = some (.eor (.indy 0x12)) ∧
    decodeTableWord 16 0x1252 = some (.eor (.zpind 0x12)) ∧
    decodeTableWord 16 0x1255 = some (.eor (.zpx 0x12)) ∧
    decodeTableWord 24 0x341259 = some (.eor (.absy 0x3412)) ∧
    decodeTableWord 24 0x34125D = some (.eor (.absx 0x3412)) ∧
    decodeTableWord 16 0x1224 = some (.bit (.zp 0x12)) ∧
    decodeTableWord 24 0x34122C = some (.bit (.abs 0x3412)) ∧
    decodeTableWord 16 0x1234 = some (.bit (.zpx 0x12)) := by decide

theorem test_decode_logic_2 :
    decodeTableWord 24 0x34123C = some (.bit (.absx 0x3412)) ∧
    decodeTableWord 16 0x1289 = some (.bit (.imm 0x12)) ∧
    decodeTableWord 16 0x1214 = some (.trb (.zp 0x12)) ∧
    decodeTableWord 24 0x34121C = some (.trb (.abs 0x3412)) ∧
    decodeTableWord 16 0x1204 = some (.tsb (.zp 0x12)) ∧
    decodeTableWord 24 0x34120C = some (.tsb (.abs 0x3412)) ∧
    decodeTableWord 16 0x1207 = some (.rmb0 0x12) ∧
    decodeTableWord 16 0x1217 = some (.rmb1 0x12) ∧
    decodeTableWord 16 0x1227 = some (.rmb2 0x12) ∧
    decodeTableWord 16 0x1237 = some (.rmb3 0x12) ∧
    decodeTableWord 16 0x1247 = some (.rmb4 0x12) ∧
    decodeTableWord 16 0x1257 = some (.rmb5 0x12) ∧
    decodeTableWord 16 0x1267 = some (.rmb6 0x12) ∧
    decodeTableWord 16 0x1277 = some (.rmb7 0x12) ∧
    decodeTableWord 16 0x1287 = some (.smb0 0x12) ∧
    decodeTableWord 16 0x1297 = some (.smb1 0x12) ∧
    decodeTableWord 16 0x12A7 = some (.smb2 0x12) ∧
    decodeTableWord 16 0x12B7 = some (.smb3 0x12) ∧
    decodeTableWord 16 0x12C7 = some (.smb4 0x12) ∧
    decodeTableWord 16 0x12D7 = some (.smb5 0x12) ∧
    decodeTableWord 16 0x12E7 = some (.smb6 0x12) ∧
    decodeTableWord 16 0x12F7 = some (.smb7 0x12) := by decide

/-- Shifts and rotates (45_shift_rotate.md). The first word is written bit by bit. -/
theorem test_decode_shifts :
    decodeTableWord 16 0b0001001000000110 = some (.asl (.zp 0x12)) ∧
    decodeTableWord 8 0x0A = some (.asl .acc) ∧
    decodeTableWord 24 0x34120E = some (.asl (.abs 0x3412)) ∧
    decodeTableWord 16 0x1216 = some (.asl (.zpx 0x12)) ∧
    decodeTableWord 24 0x34121E = some (.asl (.absx 0x3412)) ∧
    decodeTableWord 16 0x1246 = some (.lsr (.zp 0x12)) ∧
    decodeTableWord 8 0x4A = some (.lsr .acc) ∧
    decodeTableWord 24 0x34124E = some (.lsr (.abs 0x3412)) ∧
    decodeTableWord 16 0x1256 = some (.lsr (.zpx 0x12)) ∧
    decodeTableWord 24 0x34125E = some (.lsr (.absx 0x3412)) ∧
    decodeTableWord 16 0x1226 = some (.rol (.zp 0x12)) ∧
    decodeTableWord 8 0x2A = some (.rol .acc) ∧
    decodeTableWord 24 0x34122E = some (.rol (.abs 0x3412)) ∧
    decodeTableWord 16 0x1236 = some (.rol (.zpx 0x12)) ∧
    decodeTableWord 24 0x34123E = some (.rol (.absx 0x3412)) ∧
    decodeTableWord 16 0x1266 = some (.ror (.zp 0x12)) ∧
    decodeTableWord 8 0x6A = some (.ror .acc) ∧
    decodeTableWord 24 0x34126E = some (.ror (.abs 0x3412)) ∧
    decodeTableWord 16 0x1276 = some (.ror (.zpx 0x12)) ∧
    decodeTableWord 24 0x34127E = some (.ror (.absx 0x3412)) := by decide

/-- Branches, jumps and subroutines (46_control.md). The first word is written bit by bit. -/
theorem test_decode_control :
    decodeTableWord 16 0b0001001000010000 = some (.bpl 0x12) ∧
    decodeTableWord 16 0x1230 = some (.bmi 0x12) ∧
    decodeTableWord 16 0x1250 = some (.bvc 0x12) ∧
    decodeTableWord 16 0x1270 = some (.bvs 0x12) ∧
    decodeTableWord 16 0x1290 = some (.bcc 0x12) ∧
    decodeTableWord 16 0x12B0 = some (.bcs 0x12) ∧
    decodeTableWord 16 0x12D0 = some (.bne 0x12) ∧
    decodeTableWord 16 0x12F0 = some (.beq 0x12) ∧
    decodeTableWord 16 0x1280 = some (.bra 0x12) ∧
    decodeTableWord 24 0x34120F = some (.bbr0 0x12 0x34) ∧
    decodeTableWord 24 0x34121F = some (.bbr1 0x12 0x34) ∧
    decodeTableWord 24 0x34122F = some (.bbr2 0x12 0x34) ∧
    decodeTableWord 24 0x34123F = some (.bbr3 0x12 0x34) ∧
    decodeTableWord 24 0x34124F = some (.bbr4 0x12 0x34) ∧
    decodeTableWord 24 0x34125F = some (.bbr5 0x12 0x34) ∧
    decodeTableWord 24 0x34126F = some (.bbr6 0x12 0x34) ∧
    decodeTableWord 24 0x34127F = some (.bbr7 0x12 0x34) ∧
    decodeTableWord 24 0x34128F = some (.bbs0 0x12 0x34) ∧
    decodeTableWord 24 0x34129F = some (.bbs1 0x12 0x34) ∧
    decodeTableWord 24 0x3412AF = some (.bbs2 0x12 0x34) ∧
    decodeTableWord 24 0x3412BF = some (.bbs3 0x12 0x34) ∧
    decodeTableWord 24 0x3412CF = some (.bbs4 0x12 0x34) ∧
    decodeTableWord 24 0x3412DF = some (.bbs5 0x12 0x34) ∧
    decodeTableWord 24 0x3412EF = some (.bbs6 0x12 0x34) ∧
    decodeTableWord 24 0x3412FF = some (.bbs7 0x12 0x34) ∧
    decodeTableWord 24 0x34124C = some (.jmp (.abs 0x3412)) ∧
    decodeTableWord 24 0x34126C = some (.jmp (.ind 0x3412)) ∧
    decodeTableWord 24 0x34127C = some (.jmp (.absindx 0x3412)) ∧
    decodeTableWord 24 0x341220 = some (.jsr 0x3412) ∧
    decodeTableWord 8 0x60 = some (.rts) := by decide

/-- Flag instructions, no-ops, BRK, RTI, WAI and STP (47_flags_system.md). The first word is written bit by bit. -/
theorem test_decode_system_1 :
    decodeTableWord 8 0b00011000 = some (.clc) ∧
    decodeTableWord 8 0xD8 = some (.cld) ∧
    decodeTableWord 8 0x58 = some (.cli) ∧
    decodeTableWord 8 0xB8 = some (.clv) ∧
    decodeTableWord 8 0x38 = some (.sec) ∧
    decodeTableWord 8 0xF8 = some (.sed) ∧
    decodeTableWord 8 0x78 = some (.sei) ∧
    decodeTableWord 8 0xEA = some (.nop) ∧
    decodeTableWord 16 0x1202 = some (.undef 0x02 (.imm 0x12)) ∧
    decodeTableWord 8 0x03 = some (.undef 0x03 .imp) ∧
    decodeTableWord 8 0x0B = some (.undef 0x0B .imp) ∧
    decodeTableWord 8 0x13 = some (.undef 0x13 .imp) ∧
    decodeTableWord 8 0x1B = some (.undef 0x1B .imp) ∧
    decodeTableWord 16 0x1222 = some (.undef 0x22 (.imm 0x12)) ∧
    decodeTableWord 8 0x23 = some (.undef 0x23 .imp) ∧
    decodeTableWord 8 0x2B = some (.undef 0x2B .imp) ∧
    decodeTableWord 8 0x33 = some (.undef 0x33 .imp) ∧
    decodeTableWord 8 0x3B = some (.undef 0x3B .imp) ∧
    decodeTableWord 16 0x1242 = some (.undef 0x42 (.imm 0x12)) ∧
    decodeTableWord 8 0x43 = some (.undef 0x43 .imp) ∧
    decodeTableWord 16 0x1244 = some (.undef 0x44 (.zp 0x12)) ∧
    decodeTableWord 8 0x4B = some (.undef 0x4B .imp) ∧
    decodeTableWord 8 0x53 = some (.undef 0x53 .imp) ∧
    decodeTableWord 16 0x1254 = some (.undef 0x54 (.zpx 0x12)) ∧
    decodeTableWord 8 0x5B = some (.undef 0x5B .imp) ∧
    decodeTableWord 24 0x34125C = some (.undef 0x5C (.abs 0x3412)) ∧
    decodeTableWord 16 0x1262 = some (.undef 0x62 (.imm 0x12)) ∧
    decodeTableWord 8 0x63 = some (.undef 0x63 .imp) ∧
    decodeTableWord 8 0x6B = some (.undef 0x6B .imp) ∧
    decodeTableWord 8 0x73 = some (.undef 0x73 .imp) := by decide

theorem test_decode_system_2 :
    decodeTableWord 8 0x7B = some (.undef 0x7B .imp) ∧
    decodeTableWord 16 0x1282 = some (.undef 0x82 (.imm 0x12)) ∧
    decodeTableWord 8 0x83 = some (.undef 0x83 .imp) ∧
    decodeTableWord 8 0x8B = some (.undef 0x8B .imp) ∧
    decodeTableWord 8 0x93 = some (.undef 0x93 .imp) ∧
    decodeTableWord 8 0x9B = some (.undef 0x9B .imp) ∧
    decodeTableWord 8 0xA3 = some (.undef 0xA3 .imp) ∧
    decodeTableWord 8 0xAB = some (.undef 0xAB .imp) ∧
    decodeTableWord 8 0xB3 = some (.undef 0xB3 .imp) ∧
    decodeTableWord 8 0xBB = some (.undef 0xBB .imp) ∧
    decodeTableWord 16 0x12C2 = some (.undef 0xC2 (.imm 0x12)) ∧
    decodeTableWord 8 0xC3 = some (.undef 0xC3 .imp) ∧
    decodeTableWord 8 0xD3 = some (.undef 0xD3 .imp) ∧
    decodeTableWord 16 0x12D4 = some (.undef 0xD4 (.zpx 0x12)) ∧
    decodeTableWord 24 0x3412DC = some (.undef 0xDC (.abs 0x3412)) ∧
    decodeTableWord 16 0x12E2 = some (.undef 0xE2 (.imm 0x12)) ∧
    decodeTableWord 8 0xE3 = some (.undef 0xE3 .imp) ∧
    decodeTableWord 8 0xEB = some (.undef 0xEB .imp) ∧
    decodeTableWord 8 0xF3 = some (.undef 0xF3 .imp) ∧
    decodeTableWord 16 0x12F4 = some (.undef 0xF4 (.zpx 0x12)) ∧
    decodeTableWord 8 0xFB = some (.undef 0xFB .imp) ∧
    decodeTableWord 24 0x3412FC = some (.undef 0xFC (.abs 0x3412)) ∧
    decodeTableWord 8 0x00 = some (.brk) ∧
    decodeTableWord 8 0x40 = some (.rti) ∧
    decodeTableWord 8 0xCB = some (.wai) ∧
    decodeTableWord 8 0xDB = some (.stp) := by decide

/-- Bytes that end inside an instruction are refused by name. -/
theorem test_decode_truncated : decode [] = .error .noOpcode ∧ decode [0xA9] = .error (.truncated 0xA9) ∧
    decode [0x4C, 0x00] = .error (.truncated 0x4C) := ⟨rfl, rfl, rfl⟩

/-! ## One step of each instruction (95_test_vectors.md section 4) -/

theorem test_jmp_am10 : after { startAt 0x0200 [0x6C, 0xFF, 0x30] [(0x30FF, 0x80), (0x3000, 0x50), (0x3100, 0x40)] with params := { Config.defaults with zeroPageBug := true } } =
    some ⟨0x00, 0x00, 0x00, 0xFD, 0x5080, 0x34, 5⟩ := by decide
theorem test_lda_am16 : after { startAt 0x0200 [0xB1, 0xFF] [(0x00FF, 0x00), (0x0000, 0x30), (0x0100, 0x40), (0x3001, 0xAA), (0x4001, 0xBB)] with Y := 0x01, params := { Config.defaults with zeroPageBug := true } } =
    some ⟨0xAA, 0x00, 0x01, 0xFD, 0x0202, 0xB4, 5⟩ := by decide
theorem test_jmp_am21 : after { startAt 0x0200 [0x7C, 0xFF, 0x30] [(0x30FF, 0x00), (0x3100, 0x50), (0x3000, 0x60)] with X := 0x00, params := { Config.defaults with zeroPageBug := true } } =
    some ⟨0x00, 0x00, 0x00, 0xFD, 0x5000, 0x34, 6⟩ := by decide
theorem test_lda_ls3 : after { startAt 0x0200 [0xB9, 0xFF, 0x20] [(0x2100, 0x01)] with Y := 0x01 } =
    some ⟨0x01, 0x00, 0x01, 0xFD, 0x0203, 0x34, 5⟩ := by decide
theorem test_ldx_ls4 : after (startAt 0x0200 [0xA2, 0xFF] []) =
    some ⟨0x00, 0xFF, 0x00, 0xFD, 0x0202, 0xB4, 2⟩ := by decide
theorem test_ldx_ls5 : after { startAt 0x0200 [0xBE, 0x80, 0x20] [(0x2100, 0x00)] with Y := 0x80 } =
    some ⟨0x00, 0x00, 0x80, 0xFD, 0x0203, 0x36, 5⟩ := by decide
theorem test_ldy_ls6 : after (startAt 0x0200 [0xA0, 0x01] []) =
    some ⟨0x00, 0x00, 0x01, 0xFD, 0x0202, 0x34, 2⟩ := by decide
theorem test_ldy_ls7 : after { startAt 0x0200 [0xBC, 0xFF, 0x20] [(0x2100, 0x7F)] with X := 0x01 } =
    some ⟨0x00, 0x01, 0x7F, 0xFD, 0x0203, 0x34, 5⟩ := by decide
theorem test_sta_ls9 : after { startAt 0x0200 [0x9D, 0xFF, 0x20] [] with A := 0x42, X := 0x01 } =
      some ⟨0x42, 0x01, 0x00, 0xFD, 0x0203, 0x34, 5⟩ ∧
    bytesAfter { startAt 0x0200 [0x9D, 0xFF, 0x20] [] with A := 0x42, X := 0x01 } [0x2100] = some [0x42] := by decide
theorem test_sta_ls10 : after { startAt 0x0200 [0x91, 0x40] [(0x0040, 0xF8), (0x0041, 0x30)] with A := 0x42, Y := 0x10 } =
      some ⟨0x42, 0x00, 0x10, 0xFD, 0x0202, 0x34, 6⟩ ∧
    bytesAfter { startAt 0x0200 [0x91, 0x40] [(0x0040, 0xF8), (0x0041, 0x30)] with A := 0x42, Y := 0x10 } [0x3108] = some [0x42] := by decide
theorem test_stx_ls12 : after { startAt 0x0200 [0x96, 0xF0] [] with X := 0x33, Y := 0x20 } =
      some ⟨0x00, 0x33, 0x20, 0xFD, 0x0202, 0x34, 4⟩ ∧
    bytesAfter { startAt 0x0200 [0x96, 0xF0] [] with X := 0x33, Y := 0x20 } [0x0010] = some [0x33] := by decide
theorem test_sty_ls13 : after { startAt 0x0200 [0x8C, 0x00, 0x30] [] with Y := 0x44 } =
      some ⟨0x00, 0x00, 0x44, 0xFD, 0x0203, 0x34, 4⟩ ∧
    bytesAfter { startAt 0x0200 [0x8C, 0x00, 0x30] [] with Y := 0x44 } [0x3000] = some [0x44] := by decide
theorem test_stz_ls15 : after { startAt 0x0200 [0x9E, 0xFF, 0x30] [(0x3100, 0xFF)] with X := 0x01 } =
      some ⟨0x00, 0x01, 0x00, 0xFD, 0x0203, 0x34, 5⟩ ∧
    bytesAfter { startAt 0x0200 [0x9E, 0xFF, 0x30] [(0x3100, 0xFF)] with X := 0x01 } [0x3100] = some [0x00] := by decide
theorem test_stz_ls16 : after { startAt 0x0200 [0x74, 0xF0] [(0x0010, 0xFF)] with X := 0x20 } =
      some ⟨0x00, 0x20, 0x00, 0xFD, 0x0202, 0x34, 4⟩ ∧
    bytesAfter { startAt 0x0200 [0x74, 0xF0] [(0x0010, 0xFF)] with X := 0x20 } [0x0010] = some [0x00] := by decide
theorem test_tax_ts1 : after { startAt 0x0200 [0xAA] [] with A := 0x80 } =
    some ⟨0x80, 0x80, 0x00, 0xFD, 0x0201, 0xB4, 2⟩ := by decide
theorem test_tay_ts2 : after { startAt 0x0200 [0xA8] [] with A := 0x00, Y := 0x12 } =
    some ⟨0x00, 0x00, 0x00, 0xFD, 0x0201, 0x36, 2⟩ := by decide
theorem test_tsx_ts3 : after (startAt 0x0200 [0xBA] []) =
    some ⟨0x00, 0xFD, 0x00, 0xFD, 0x0201, 0xB4, 2⟩ := by decide
theorem test_txa_ts4 : after { startAt 0x0200 [0x8A] [] with A := 0x00, X := 0x7F } =
    some ⟨0x7F, 0x7F, 0x00, 0xFD, 0x0201, 0x34, 2⟩ := by decide
theorem test_txs_ts5 : after { startAt 0x0200 [0x9A] [] with X := 0x00, P := 0xB4 } =
    some ⟨0x00, 0x00, 0x00, 0x00, 0x0201, 0xB4, 2⟩ := by decide
theorem test_tya_ts6 : after { startAt 0x0200 [0x98] [] with Y := 0xFE } =
    some ⟨0xFE, 0x00, 0xFE, 0xFD, 0x0201, 0xB4, 2⟩ := by decide
theorem test_pha_ts7 : after { startAt 0x0200 [0x48] [] with A := 0x3C } =
      some ⟨0x3C, 0x00, 0x00, 0xFC, 0x0201, 0x34, 3⟩ ∧
    bytesAfter { startAt 0x0200 [0x48] [] with A := 0x3C } [0x01FD] = some [0x3C] := by decide
theorem test_pha_ts8 : after { startAt 0x0200 [0x48] [] with A := 0x3C, S := 0x00 } =
      some ⟨0x3C, 0x00, 0x00, 0xFF, 0x0201, 0x34, 3⟩ ∧
    bytesAfter { startAt 0x0200 [0x48] [] with A := 0x3C, S := 0x00 } [0x0100] = some [0x3C] := by decide
theorem test_php_ts9 : after { startAt 0x0200 [0x08] [] with P := 0xC3 } =
      some ⟨0x00, 0x00, 0x00, 0xFC, 0x0201, 0xC3, 3⟩ ∧
    bytesAfter { startAt 0x0200 [0x08] [] with P := 0xC3 } [0x01FD] = some [0xF3] := by decide
theorem test_php_ts10 : after { startAt 0x0200 [0x08] [] with P := 0x24 } =
      some ⟨0x00, 0x00, 0x00, 0xFC, 0x0201, 0x24, 3⟩ ∧
    bytesAfter { startAt 0x0200 [0x08] [] with P := 0x24 } [0x01FD] = some [0x34] := by decide
theorem test_pla_ts11 : after { startAt 0x0200 [0x68] [(0x01FD, 0x00)] with A := 0x11, S := 0xFC } =
    some ⟨0x00, 0x00, 0x00, 0xFD, 0x0201, 0x36, 4⟩ := by decide
theorem test_pla_ts12 : after { startAt 0x0200 [0x68] [(0x0100, 0x90)] with S := 0xFF } =
    some ⟨0x90, 0x00, 0x00, 0x00, 0x0201, 0xB4, 4⟩ := by decide
theorem test_plp_ts13 : after { startAt 0x0200 [0x28] [(0x01FD, 0x00)] with S := 0xFC } =
    some ⟨0x00, 0x00, 0x00, 0xFD, 0x0201, 0x20, 4⟩ := by decide
theorem test_plp_ts14 : after { startAt 0x0200 [0x28] [(0x01FD, 0xFF)] with S := 0xFC } =
    some ⟨0x00, 0x00, 0x00, 0xFD, 0x0201, 0xFF, 4⟩ := by decide
theorem test_phx_ts15 : after { startAt 0x0200 [0xDA] [] with X := 0xAB } =
      some ⟨0x00, 0xAB, 0x00, 0xFC, 0x0201, 0x34, 3⟩ ∧
    bytesAfter { startAt 0x0200 [0xDA] [] with X := 0xAB } [0x01FD] = some [0xAB] := by decide
theorem test_phy_ts16 : after { startAt 0x0200 [0x5A] [] with Y := 0xCD } =
      some ⟨0x00, 0x00, 0xCD, 0xFC, 0x0201, 0x34, 3⟩ ∧
    bytesAfter { startAt 0x0200 [0x5A] [] with Y := 0xCD } [0x01FD] = some [0xCD] := by decide
theorem test_plx_ts17 : after { startAt 0x0200 [0xFA] [(0x01FD, 0x80)] with S := 0xFC } =
    some ⟨0x00, 0x80, 0x00, 0xFD, 0x0201, 0xB4, 4⟩ := by decide
theorem test_ply_ts18 : after { startAt 0x0200 [0x7A] [(0x01FD, 0x00)] with Y := 0x05, S := 0xFC } =
    some ⟨0x00, 0x00, 0x00, 0xFD, 0x0201, 0x36, 4⟩ := by decide
theorem test_adc_ar1 : after { startAt 0x0200 [0x69, 0x50] [] with A := 0x50 } =
    some ⟨0xA0, 0x00, 0x00, 0xFD, 0x0202, 0xF4, 2⟩ := by decide
theorem test_adc_ar9 : after { startAt 0x0200 [0x69, 0x01] [] with A := 0x99, P := 0x3C, params := { Config.defaults with decimalNZ := .nmos } } =
    some ⟨0x00, 0x00, 0x00, 0xFD, 0x0202, 0xBD, 2⟩ := by decide
theorem test_sbc_ar15 : after { startAt 0x0200 [0xE9, 0x01] [] with A := 0x80, P := 0x35 } =
    some ⟨0x7F, 0x00, 0x00, 0xFD, 0x0202, 0x75, 2⟩ := by decide
theorem test_sbc_ar21 : after { startAt 0x0200 [0xE9, 0x02] [] with A := 0x32, P := 0x3C } =
    some ⟨0x29, 0x00, 0x00, 0xFD, 0x0202, 0x3D, 2⟩ := by decide
theorem test_cmp_ar23 : after { startAt 0x0200 [0xC9, 0x41] [] with A := 0x40 } =
    some ⟨0x40, 0x00, 0x00, 0xFD, 0x0202, 0xB4, 2⟩ := by decide
theorem test_cmp_ar24 : after { startAt 0x0200 [0xC9, 0x01] [] with A := 0x80, P := 0x7C } =
    some ⟨0x80, 0x00, 0x00, 0xFD, 0x0202, 0x7D, 2⟩ := by decide
theorem test_cpx_ar25 : after { startAt 0x0200 [0xE0, 0xFF] [] with X := 0x00 } =
    some ⟨0x00, 0x00, 0x00, 0xFD, 0x0202, 0x34, 2⟩ := by decide
theorem test_cpy_ar26 : after { startAt 0x0200 [0xC0, 0x00] [] with Y := 0x80 } =
    some ⟨0x00, 0x00, 0x80, 0xFD, 0x0202, 0xB5, 2⟩ := by decide
theorem test_inc_ar28 : after { startAt 0x0200 [0x1A] [] with A := 0x7F } =
    some ⟨0x80, 0x00, 0x00, 0xFD, 0x0201, 0xB4, 2⟩ := by decide
theorem test_inc_ar29 : after { startAt 0x0200 [0xFE, 0xFF, 0x20] [(0x2100, 0x41)] with X := 0x01 } =
      some ⟨0x00, 0x01, 0x00, 0xFD, 0x0203, 0x34, 7⟩ ∧
    bytesAfter { startAt 0x0200 [0xFE, 0xFF, 0x20] [(0x2100, 0x41)] with X := 0x01 } [0x2100] = some [0x42] := by decide
theorem test_dec_ar30 : after (startAt 0x0200 [0xCE, 0x00, 0x30] [(0x3000, 0x00)]) =
      some ⟨0x00, 0x00, 0x00, 0xFD, 0x0203, 0xB4, 6⟩ ∧
    bytesAfter (startAt 0x0200 [0xCE, 0x00, 0x30] [(0x3000, 0x00)]) [0x3000] = some [0xFF] := by decide
theorem test_dec_ar31 : after { startAt 0x0200 [0x3A] [] with A := 0x01 } =
    some ⟨0x00, 0x00, 0x00, 0xFD, 0x0201, 0x36, 2⟩ := by decide
theorem test_inx_ar32 : after { startAt 0x0200 [0xE8] [] with X := 0xFF } =
    some ⟨0x00, 0x00, 0x00, 0xFD, 0x0201, 0x36, 2⟩ := by decide
theorem test_iny_ar33 : after { startAt 0x0200 [0xC8] [] with Y := 0x7F } =
    some ⟨0x00, 0x00, 0x80, 0xFD, 0x0201, 0xB4, 2⟩ := by decide
theorem test_dex_ar34 : after { startAt 0x0200 [0xCA] [] with X := 0x00 } =
    some ⟨0x00, 0xFF, 0x00, 0xFD, 0x0201, 0xB4, 2⟩ := by decide
theorem test_dey_ar35 : after { startAt 0x0200 [0x88] [] with Y := 0x01 } =
    some ⟨0x00, 0x00, 0x00, 0xFD, 0x0201, 0x36, 2⟩ := by decide
theorem test_and_lb1 : after { startAt 0x0200 [0x29, 0x0F] [] with A := 0xF0 } =
    some ⟨0x00, 0x00, 0x00, 0xFD, 0x0202, 0x36, 2⟩ := by decide
theorem test_ora_lb2 : after { startAt 0x0200 [0x09, 0x01] [] with A := 0x80 } =
    some ⟨0x81, 0x00, 0x00, 0xFD, 0x0202, 0xB4, 2⟩ := by decide
theorem test_eor_lb3 : after { startAt 0x0200 [0x49, 0xFF] [] with A := 0xFF } =
    some ⟨0x00, 0x00, 0x00, 0xFD, 0x0202, 0x36, 2⟩ := by decide
theorem test_eor_lb4 : after { startAt 0x0200 [0x5D, 0xFF, 0x20] [(0x2100, 0xF0)] with A := 0x0F, X := 0x01 } =
    some ⟨0xFF, 0x01, 0x00, 0xFD, 0x0203, 0xB4, 5⟩ := by decide
theorem test_bit_lb5 : after { startAt 0x0200 [0x24, 0x10] [(0x0010, 0xC0)] with A := 0x00 } =
    some ⟨0x00, 0x00, 0x00, 0xFD, 0x0202, 0xF6, 3⟩ := by decide
theorem test_bit_lb7 : after { startAt 0x0200 [0x89, 0xC0] [] with A := 0x01, P := 0x74 } =
    some ⟨0x01, 0x00, 0x00, 0xFD, 0x0202, 0x76, 2⟩ := by decide
theorem test_trb_lb9 : after { startAt 0x0200 [0x14, 0x40] [(0x0040, 0x01)] with A := 0x0F } =
      some ⟨0x0F, 0x00, 0x00, 0xFD, 0x0202, 0x34, 5⟩ ∧
    bytesAfter { startAt 0x0200 [0x14, 0x40] [(0x0040, 0x01)] with A := 0x0F } [0x0040] = some [0x00] := by decide
theorem test_trb_lb10 : after { startAt 0x0200 [0x1C, 0x00, 0x30] [(0x3000, 0xF0)] with A := 0x0F } =
      some ⟨0x0F, 0x00, 0x00, 0xFD, 0x0203, 0x36, 6⟩ ∧
    bytesAfter { startAt 0x0200 [0x1C, 0x00, 0x30] [(0x3000, 0xF0)] with A := 0x0F } [0x3000] = some [0xF0] := by decide
theorem test_tsb_lb11 : after { startAt 0x0200 [0x04, 0x41] [(0x0041, 0xF0)] with A := 0x0F } =
      some ⟨0x0F, 0x00, 0x00, 0xFD, 0x0202, 0x36, 5⟩ ∧
    bytesAfter { startAt 0x0200 [0x04, 0x41] [(0x0041, 0xF0)] with A := 0x0F } [0x0041] = some [0xFF] := by decide
theorem test_tsb_lb12 : after { startAt 0x0200 [0x0C, 0x00, 0x30] [(0x3000, 0x01)] with A := 0x81 } =
      some ⟨0x81, 0x00, 0x00, 0xFD, 0x0203, 0x34, 6⟩ ∧
    bytesAfter { startAt 0x0200 [0x0C, 0x00, 0x30] [(0x3000, 0x01)] with A := 0x81 } [0x3000] = some [0x81] := by decide
theorem test_rmb3_lb13 : after (startAt 0x0200 [0x37, 0x20] [(0x0020, 0xFF)]) =
      some ⟨0x00, 0x00, 0x00, 0xFD, 0x0202, 0x34, 5⟩ ∧
    bytesAfter (startAt 0x0200 [0x37, 0x20] [(0x0020, 0xFF)]) [0x0020] = some [0xF7] := by decide
theorem test_rmb0_lb14 : after (startAt 0x0200 [0x07, 0x20] [(0x0020, 0x00)]) =
      some ⟨0x00, 0x00, 0x00, 0xFD, 0x0202, 0x34, 5⟩ ∧
    bytesAfter (startAt 0x0200 [0x07, 0x20] [(0x0020, 0x00)]) [0x0020] = some [0x00] := by decide
theorem test_smb7_lb15 : after (startAt 0x0200 [0xF7, 0x20] [(0x0020, 0x00)]) =
      some ⟨0x00, 0x00, 0x00, 0xFD, 0x0202, 0x34, 5⟩ ∧
    bytesAfter (startAt 0x0200 [0xF7, 0x20] [(0x0020, 0x00)]) [0x0020] = some [0x80] := by decide
theorem test_smb0_lb16 : after (startAt 0x0200 [0x87, 0x20] [(0x0020, 0x01)]) =
      some ⟨0x00, 0x00, 0x00, 0xFD, 0x0202, 0x34, 5⟩ ∧
    bytesAfter (startAt 0x0200 [0x87, 0x20] [(0x0020, 0x01)]) [0x0020] = some [0x01] := by decide
theorem test_asl_sr1 : after { startAt 0x0200 [0x0A] [] with A := 0x81 } =
    some ⟨0x02, 0x00, 0x00, 0xFD, 0x0201, 0x35, 2⟩ := by decide
theorem test_asl_sr3 : after { startAt 0x0200 [0x1E, 0xFF, 0x20] [(0x2100, 0x01)] with X := 0x01 } =
      some ⟨0x00, 0x01, 0x00, 0xFD, 0x0203, 0x34, 7⟩ ∧
    bytesAfter { startAt 0x0200 [0x1E, 0xFF, 0x20] [(0x2100, 0x01)] with X := 0x01 } [0x2100] = some [0x02] := by decide
theorem test_lsr_sr4 : after { startAt 0x0200 [0x4A] [] with A := 0x01 } =
    some ⟨0x00, 0x00, 0x00, 0xFD, 0x0201, 0x37, 2⟩ := by decide
theorem test_lsr_sr5 : after { startAt 0x0200 [0x4E, 0x00, 0x30] [(0x3000, 0xFE)] with P := 0xB5 } =
      some ⟨0x00, 0x00, 0x00, 0xFD, 0x0203, 0x34, 6⟩ ∧
    bytesAfter { startAt 0x0200 [0x4E, 0x00, 0x30] [(0x3000, 0xFE)] with P := 0xB5 } [0x3000] = some [0x7F] := by decide
theorem test_rol_sr6 : after { startAt 0x0200 [0x2A] [] with A := 0x80, P := 0x35 } =
    some ⟨0x01, 0x00, 0x00, 0xFD, 0x0201, 0x35, 2⟩ := by decide
theorem test_rol_sr7 : after (startAt 0x0200 [0x26, 0x10] [(0x0010, 0x40)]) =
      some ⟨0x00, 0x00, 0x00, 0xFD, 0x0202, 0xB4, 5⟩ ∧
    bytesAfter (startAt 0x0200 [0x26, 0x10] [(0x0010, 0x40)]) [0x0010] = some [0x80] := by decide
theorem test_ror_sr8 : after { startAt 0x0200 [0x6A] [] with A := 0x01, P := 0x35 } =
    some ⟨0x80, 0x00, 0x00, 0xFD, 0x0201, 0xB5, 2⟩ := by decide
theorem test_ror_sr9 : after { startAt 0x0200 [0x76, 0x0F] [(0x0010, 0x02)] with X := 0x01 } =
      some ⟨0x00, 0x01, 0x00, 0xFD, 0x0202, 0x34, 6⟩ ∧
    bytesAfter { startAt 0x0200 [0x76, 0x0F] [(0x0010, 0x02)] with X := 0x01 } [0x0010] = some [0x01] := by decide
theorem test_bpl_ct1 : after (startAt 0x0300 [0x10, 0x05] []) =
    some ⟨0x00, 0x00, 0x00, 0xFD, 0x0307, 0x34, 3⟩ := by decide
theorem test_bpl_ct2 : after { startAt 0x0300 [0x10, 0x05] [] with P := 0xB4 } =
    some ⟨0x00, 0x00, 0x00, 0xFD, 0x0302, 0xB4, 2⟩ := by decide
theorem test_bmi_ct3 : after { startAt 0x02FD [0x30, 0x05] [] with P := 0xB4 } =
    some ⟨0x00, 0x00, 0x00, 0xFD, 0x0304, 0xB4, 4⟩ := by decide
theorem test_bvc_ct4 : after (startAt 0x0200 [0x50, 0xFE] []) =
    some ⟨0x00, 0x00, 0x00, 0xFD, 0x0200, 0x34, 3⟩ := by decide
theorem test_bvs_ct5 : after { startAt 0x0200 [0x70, 0x80] [] with P := 0x74 } =
    some ⟨0x00, 0x00, 0x00, 0xFD, 0x0182, 0x74, 4⟩ := by decide
theorem test_bcc_ct6 : after (startAt 0x0200 [0x90, 0x7F] []) =
    some ⟨0x00, 0x00, 0x00, 0xFD, 0x0281, 0x34, 3⟩ := by decide
theorem test_bcs_ct7 : after (startAt 0x0200 [0xB0, 0x10] []) =
    some ⟨0x00, 0x00, 0x00, 0xFD, 0x0202, 0x34, 2⟩ := by decide
theorem test_bne_ct8 : after (startAt 0x0200 [0xD0, 0xFE] []) =
    some ⟨0x00, 0x00, 0x00, 0xFD, 0x0200, 0x34, 3⟩ := by decide
theorem test_beq_ct9 : after { startAt 0x10FE [0xF0, 0x02] [] with P := 0x36 } =
    some ⟨0x00, 0x00, 0x00, 0xFD, 0x1102, 0x36, 3⟩ := by decide
theorem test_bra_ct10 : after (startAt 0xFFFE [0x80, 0x00] []) =
    some ⟨0x00, 0x00, 0x00, 0xFD, 0x0000, 0x34, 3⟩ := by decide
theorem test_bra_ct11 : after (startAt 0x0000 [0x80, 0xFC] []) =
    some ⟨0x00, 0x00, 0x00, 0xFD, 0xFFFE, 0x34, 4⟩ := by decide
theorem test_bbr0_ct12 : after (startAt 0x0400 [0x0F, 0x12, 0x05] [(0x0012, 0xFE)]) =
    some ⟨0x00, 0x00, 0x00, 0xFD, 0x0408, 0x34, 6⟩ := by decide
theorem test_bbr0_ct13 : after (startAt 0x0400 [0x0F, 0x12, 0x05] [(0x0012, 0x01)]) =
    some ⟨0x00, 0x00, 0x00, 0xFD, 0x0403, 0x34, 5⟩ := by decide
theorem test_bbs7_ct14 : after (startAt 0x0400 [0xFF, 0x12, 0x7F] [(0x0012, 0x80)]) =
    some ⟨0x00, 0x00, 0x00, 0xFD, 0x0482, 0x34, 6⟩ := by decide
theorem test_bbs3_ct15 : after (startAt 0x04FB [0xBF, 0x12, 0x02] [(0x0012, 0x08)]) =
    some ⟨0x00, 0x00, 0x00, 0xFD, 0x0500, 0x34, 7⟩ := by decide
theorem test_jsr_ct17 : after (startAt 0x1000 [0x20, 0x00, 0x20] []) =
      some ⟨0x00, 0x00, 0x00, 0xFB, 0x2000, 0x34, 6⟩ ∧
    bytesAfter (startAt 0x1000 [0x20, 0x00, 0x20] []) [0x01FD, 0x01FC] = some [0x10, 0x02] := by decide
theorem test_jsr_ct18 : after { startAt 0x1000 [0x20, 0x00, 0x20] [] with S := 0x00 } =
      some ⟨0x00, 0x00, 0x00, 0xFE, 0x2000, 0x34, 6⟩ ∧
    bytesAfter { startAt 0x1000 [0x20, 0x00, 0x20] [] with S := 0x00 } [0x0100, 0x01FF] = some [0x10, 0x02] := by decide
theorem test_rts_ct19 : after { startAt 0x0200 [0x60] [(0x01FC, 0x02), (0x01FD, 0x10)] with S := 0xFB } =
    some ⟨0x00, 0x00, 0x00, 0xFD, 0x1003, 0x34, 6⟩ := by decide
theorem test_rts_ct20 : after { startAt 0x0200 [0x60] [(0x01FE, 0xFF), (0x01FF, 0xFF)] with S := 0xFD } =
    some ⟨0x00, 0x00, 0x00, 0xFF, 0x0000, 0x34, 6⟩ := by decide
theorem test_clc_fs1 : after { startAt 0x0200 [0x18] [] with P := 0x35 } =
    some ⟨0x00, 0x00, 0x00, 0xFD, 0x0201, 0x34, 2⟩ := by decide
theorem test_cld_fs2 : after { startAt 0x0200 [0xD8] [] with P := 0x3C } =
    some ⟨0x00, 0x00, 0x00, 0xFD, 0x0201, 0x34, 2⟩ := by decide
theorem test_cli_fs3 : after (startAt 0x0200 [0x58] []) =
    some ⟨0x00, 0x00, 0x00, 0xFD, 0x0201, 0x30, 2⟩ := by decide
theorem test_clv_fs4 : after { startAt 0x0200 [0xB8] [] with P := 0x74 } =
    some ⟨0x00, 0x00, 0x00, 0xFD, 0x0201, 0x34, 2⟩ := by decide
theorem test_sec_fs5 : after (startAt 0x0200 [0x38] []) =
    some ⟨0x00, 0x00, 0x00, 0xFD, 0x0201, 0x35, 2⟩ := by decide
theorem test_sed_fs6 : after (startAt 0x0200 [0xF8] []) =
    some ⟨0x00, 0x00, 0x00, 0xFD, 0x0201, 0x3C, 2⟩ := by decide
theorem test_sei_fs7 : after { startAt 0x0200 [0x78] [] with P := 0x30 } =
    some ⟨0x00, 0x00, 0x00, 0xFD, 0x0201, 0x34, 2⟩ := by decide
theorem test_nop_fs8 : after (startAt 0x0200 [0xEA] []) =
    some ⟨0x00, 0x00, 0x00, 0xFD, 0x0201, 0x34, 2⟩ := by decide
theorem test_undef_fs9 : after (startAt 0x0200 [0x02, 0x55] []) = some ⟨0x00, 0x00, 0x00, 0xFD, 0x0202, 0x34, 2⟩ ∧
    (steps 1 (startAt 0x0200 [0x02, 0x55] [])).map (·.diag) = some [.unsupportedOpcode 0x02 0x0200] := by decide
theorem test_undef_fs14 : after (startAt 0x0200 [0xDC, 0x00, 0x30] []) = some ⟨0x00, 0x00, 0x00, 0xFD, 0x0203, 0x34, 4⟩ ∧
    (steps 1 (startAt 0x0200 [0xDC, 0x00, 0x30] [])).map (·.diag) = some [.unsupportedOpcode 0xDC 0x0200] := by decide
theorem test_brk_fs15 : after { startAt 0x0300 [0x00, 0xEA] [(0xFFFE, 0x00), (0xFFFF, 0x90)] with P := 0x3D } =
      some ⟨0x00, 0x00, 0x00, 0xFA, 0x9000, 0x35, 7⟩ ∧
    bytesAfter { startAt 0x0300 [0x00, 0xEA] [(0xFFFE, 0x00), (0xFFFF, 0x90)] with P := 0x3D } [0x01FD, 0x01FC, 0x01FB] = some [0x03, 0x02, 0x3D] := by decide
theorem test_rti_fs16 : after { startAt 0x9000 [0x40] [(0x01FB, 0x3D), (0x01FC, 0x02), (0x01FD, 0x03)] with S := 0xFA } =
    some ⟨0x00, 0x00, 0x00, 0xFD, 0x0302, 0x3D, 6⟩ := by decide
theorem test_rti_fs17 : after { startAt 0x9000 [0x40] [(0x01FB, 0x00), (0x01FC, 0x00), (0x01FD, 0x80)] with S := 0xFA } =
    some ⟨0x00, 0x00, 0x00, 0xFD, 0x8000, 0x20, 6⟩ := by decide
theorem test_wai_fs18 : after (startAt 0x0200 [0xCB] []) = some ⟨0x00, 0x00, 0x00, 0xFD, 0x0201, 0x34, 3⟩ ∧
    (steps 1 (startAt 0x0200 [0xCB] [])).map (·.waiting) = some true := by decide
theorem test_stp_fs19 : after (startAt 0x0200 [0xDB] []) = some ⟨0x00, 0x00, 0x00, 0xFD, 0x0201, 0x34, 3⟩ ∧
    (steps 1 (startAt 0x0200 [0xDB] [])).map (·.stopped) = some true := by decide

/-- RMB0 to RMB7 (R807): the eight bytes left of 0xFF. -/
theorem test_rmb_each_bit : [0x07, 0x17, 0x27, 0x37, 0x47, 0x57, 0x67, 0x77].map
      (fun op => bytesAfter (startAt 0x0200 [op, 0x20] [(0x0020, 0xFF)]) [0x0020]) =
    [[0xFE], [0xFD], [0xFB], [0xF7], [0xEF], [0xDF], [0xBF], [0x7F]].map some := by decide

/-- SMB0 to SMB7 (R808): the eight bytes made of 0x00. -/
theorem test_smb_each_bit : [0x87, 0x97, 0xA7, 0xB7, 0xC7, 0xD7, 0xE7, 0xF7].map
      (fun op => bytesAfter (startAt 0x0200 [op, 0x20] []) [0x0020]) =
    [[0x01], [0x02], [0x04], [0x08], [0x10], [0x20], [0x40], [0x80]].map some := by decide

/-- BBR0 to BBR7 on the byte 0x55 (R1019): taken on the odd bits. -/
theorem test_bbr_each_bit : [0x0F, 0x1F, 0x2F, 0x3F, 0x4F, 0x5F, 0x6F, 0x7F].map
      (fun op => (after (startAt 0x0400 [op, 0x12, 0x05] [(0x0012, 0x55)])).map (·.PC)) =
    [0x0403, 0x0408, 0x0403, 0x0408, 0x0403, 0x0408, 0x0403, 0x0408].map some := by decide

/-- BBS0 to BBS7 on the byte 0x55 (R1020): taken on the even bits. -/
theorem test_bbs_each_bit : [0x8F, 0x9F, 0xAF, 0xBF, 0xCF, 0xDF, 0xEF, 0xFF].map
      (fun op => (after (startAt 0x0400 [op, 0x12, 0x05] [(0x0012, 0x55)])).map (·.PC)) =
    [0x0408, 0x0403, 0x0408, 0x0403, 0x0408, 0x0403, 0x0408, 0x0403].map some := by decide

/-! ## Host calls, interrupts, faults, setup (95_test_vectors.md sections 3 and 4) -/

/-- The core of the vectors' start with both vectors set and one host call waiting. -/
def called (c : HostCall) (p : Byte) (countdown : Nat) : State :=
  { State.reset with
    PC := 0x0234
    P := p
    countdown := countdown
    mem := [(0xFFFB, 0x70), (0xFFFF, 0x80)]
    hostCalls := [c] }

theorem test_irq_in1 : after (called .irq 0x30 0) = some ⟨0, 0, 0, 0xFA, 0x8000, 0x34, 7⟩ ∧
    bytesAfter (called .irq 0x30 0) [0x01FD, 0x01FC, 0x01FB] = some [0x02, 0x34, 0x20] := by decide

theorem test_irq_masked_in2 : after (called .irq 0x34 0) = some ⟨0, 0, 0, 0xFD, 0x0234, 0x34, 0⟩ := by decide

theorem test_nmi_in4 : after (called .nmi 0xFB 3) = some ⟨0, 0, 0, 0xFA, 0x7000, 0xF7, 10⟩ ∧
    bytesAfter (called .nmi 0xFB 3) [0x01FD, 0x01FC, 0x01FB] = some [0x02, 0x34, 0xEB] := by decide

theorem test_irq_ends_wait_in5 :
    (steps 1 { called .irq 0x34 0 with waiting := true }).map (·.waiting) = some false := by decide

theorem test_nmi_stopped_in7 :
    after { called .nmi 0x30 0 with stopped := true } = some ⟨0, 0, 0, 0xFD, 0x0234, 0x30, 0⟩ := by decide

/-- A device's interrupt reaches the attached core through the bus, and nothing without one (R1214). -/
theorem test_bus_irq : after (called .busIrq 0x30 0) = some ⟨0, 0, 0, 0xFA, 0x8000, 0x34, 7⟩ ∧
    after { called .busIrq 0x30 0 with attached := false } = some ⟨0, 0, 0, 0xFD, 0x0234, 0x30, 0⟩ := by decide

/-- The machine of R1312's setup calls: RAM, ROM, an external device each way, and no device at 0xA000 to 0xEFFF. -/
def board : List Device :=
  [⟨0x0000, 0x8000, false, .ram⟩, ⟨0x8000, 0x1000, false, .external false⟩, ⟨0x9000, 0x1000, true, .external true⟩,
    ⟨0xF000, 0x1000, false, .rom⟩]

/-- A running core on that board, with bytes at PC. -/
def onBoard (bytes : List Byte) : State := { startAt 0x0200 bytes [] with devices := board }

/-- Vector FT-1 on that board: the ROM keeps its byte and the countdown is not loaded. -/
theorem test_rom_write_ft1 :
    (left { onBoard [0x8D, 0x00, 0xF0] with A := 0x12 }).map hostView = some ⟨0x12, 0, 0, 0xFD, 0x0203, 0x34, 0⟩ ∧
    (left { onBoard [0x8D, 0x00, 0xF0] with A := 0x12 }).map (·.byteAt 0xF000) = some 0x00 ∧
    (left { onBoard [0x8D, 0x00, 0xF0] with A := 0x12 }).map (·.phase) = some .faulted := by decide

/-- Vector FT-3 on that board. -/
theorem test_unowned_read_ft3 : (left { onBoard [0xAD, 0x00, 0xA0] with A := 0x77 }).map hostView =
    some ⟨0x77, 0, 0, 0xFD, 0x0203, 0x34, 0⟩ := by decide

/-- An external device sees each access with the index its range gives it (R206, R213). -/
theorem test_external_device : (steps 1 { onBoard [0x8D, 0x10, 0x80] with A := 0x12 }).map (·.deviceLog) =
      some [⟨0x8000, 0x10, none⟩, ⟨0x8000, 0x10, some 0x12⟩] ∧
    (steps 1 (onBoard [0xAD, 0x10, 0x90])).map (·.deviceLog) = some [⟨0x9000, 0x9010, none⟩] := by decide

/-- The setup and boot of R1312, then the clock sequence of 95_test_vectors.md section 3: `reset()` and 8 `clock()`
calls before the program's first instruction. -/
def boot : State :=
  { State.constructed Config.defaults with
    hostCalls := [.register ⟨0x0000, 0x8000, false, .ram⟩, .register ⟨0x8000, 0x8000, false, .rom⟩,
      .load 0 0x0200 [0xA9, 0x01, 0xEA], .load 1 0x7FFC [0x00, 0x02], .attach, .reset] }

theorem test_boot_reset : (steps 6 boot).map hostView = some ⟨0, 0, 0, 0xFD, 0x0200, 0x34, 8⟩ := by decide
theorem test_boot_counts : (steps 14 boot).map hostView = some ⟨0, 0, 0, 0xFD, 0x0200, 0x34, 0⟩ := by decide
theorem test_boot_first : (steps 15 boot).map hostView = some ⟨0x01, 0, 0, 0xFD, 0x0202, 0x34, 2⟩ := by decide
theorem test_boot_second : (steps 18 boot).map hostView = some ⟨0x01, 0, 0, 0xFD, 0x0203, 0x34, 2⟩ := by decide

/-- `State.reset` is what `reset()` leaves of a core just constructed over RAM everywhere (log entries 1, 2, 5). -/
theorem test_reset_state :
    resetCall { State.constructed Config.defaults with devices := [wholeRam], attached := true } = .next State.reset := rfl

/-- Vector FT-5. -/
theorem test_overlap_ft5 : (steps 2 { State.constructed Config.defaults with
      hostCalls := [.register ⟨0x0000, 0x8000, false, .ram⟩, .register ⟨0x7F80, 0x100, false, .ram⟩] }) = none ∧
    (steps 1 { State.constructed Config.defaults with
      hostCalls := [.register ⟨0x0000, 0x8000, false, .ram⟩] }).isSome = true ∧
    perform (.register ⟨0x7F80, 0x100, false, .ram⟩)
        { State.constructed Config.defaults with devices := [⟨0x0000, 0x8000, false, .ram⟩] } =
      .fault (.configurationError ⟨0x7F80, 0x100, false, .ram⟩
        { State.constructed Config.defaults with devices := [⟨0x0000, 0x8000, false, .ram⟩], phase := .notOperational }) :=
  ⟨by decide, by decide, rfl⟩

/-- The listing of program P2's second line and of P6's BBS0 (95_test_vectors.md section 5). -/
theorem test_listing : (listCommands 1 1 (startAt 0x0202 [0x20, 0x00, 0x03] [])).1.pairs =
      [(0x0202, ['J', 'S', 'R', ' ', '$', '0', '3', '0', '0'])] ∧
    (listCommands 1 1 (startAt 0x0202 [0x8F, 0x40, 0x01] [])).1.pairs =
      [(0x0202, ['B', 'B', 'S', '0', ' ', '$', '4', '0', ',', '$', '0', '2', '0', '6'])] := by decide

/-- R340 on the line of test_listing: a pull gives the pair and leaves PC. -/
theorem test_listing_next : (match step { startAt 0x0300 [] [(0x0202, 0x20), (0x0204, 0x03)] with
        listings := [Listing.started 1 0x0202], hostCalls := [.listNext 0] } with
      | .next t => some (t.PC, t.listings)
      | _ => none) = some (0x0300, [⟨0x0202, some 1, 0x0205,
        [(0x0202, ['J', 'S', 'R', ' ', '$', '0', '3', '0', '0'])], none⟩]) ∧
    (⟨0x0202, some 1, 0x0205, [(0x0202, [])], none⟩ : Listing).ended = true := by decide

/-- R340: "each restart begins again at that address", the one of the start and not PC. -/
theorem test_listing_restart : (match step { startAt 0x0300 [] [] with
        listings := [⟨0x0202, none, 0x0205, [(0x0202, [])], none⟩], hostCalls := [.listRestart 0] } with
      | .next t => some t.listings
      | _ => none) = some [⟨0x0202, none, 0x0202, [], none⟩] := by decide

/-- R340: "if a read raises AddressError the sequence ends with that error", and the core goes on. -/
theorem test_listing_error : (match step { onBoard [] with
        listings := [Listing.started (-1) 0xA000], hostCalls := [.listNext 0] } with
      | .next t => some (t.phase, t.listings.map (·.error))
      | _ => none) = some (.running, [some 0xA000]) := by decide

/-- R9: a configuration's own `PAGE_PENALTY[op]` of LDA (R501: `BD ABSX 4*`). -/
theorem test_configured_penalty : cost { Config.defaults with pagePenalties := [(0xBD, false)] } 0xBD true 0 = 4 ∧
    cost { Config.defaults with pagePenalties := [(0xBD, false)] } 0xB9 true 0 = 5 ∧
    cost Config.defaults 0xBD true 0 = 5 := by decide

/-- R202: "no run from it (refused)", the bus's own calls with no core attached too. -/
theorem test_bus_irq_not_operational : (match step { State.constructed Config.defaults with
        phase := .notOperational, hostCalls := [.busIrq] } with
      | .refused r => some r
      | _ => none) = some .busNotOperational := by decide

/-! ## Witnesses: for each statement that has hypotheses, inputs that meet them -/

/-- RAM owns every address of the reset state. -/
theorem reset_ramAt (a : Word) : ramAt State.reset a = true := by
  have h : ownerOf State.reset.devices a.toNat = some wholeRam := by
    simp [ownerOf, State.reset, wholeRam, Device.owns, a.isLt]
  simp [ramAt, h, wholeRam]

theorem reset_holdsBytes (a : Word) : holdsBytes State.reset.devices a = true := by
  have h : ownerOf State.reset.devices a.toNat = some wholeRam := by
    simp [ownerOf, State.reset, wholeRam, Device.owns, a.isLt]
  simp [holdsBytes, h, wholeRam]

theorem reset_writableAt (a : Word) : writableAt State.reset a = true := by
  have h : ownerOf State.reset.devices a.toNat = some wholeRam := by
    simp [ownerOf, State.reset, wholeRam, Device.owns, a.isLt]
  simp [writableAt, Device.writable, h, wholeRam]

/-- The state of the witnesses on the board: RAM, an external device each way, ROM and a hole. -/
def boardState : State := onBoard []

theorem boardState_inv : boardState.Inv := by decide

theorem witness_DecodeOfEncode : (Instr.lda (.absx 0xFFFF)).wf = true ∧ (Instr.undef 0x5C (.abs 0x0000)).wf = true ∧
    (Instr.bbs7 0xFF 0x80).wf = true := by decide
theorem witness_EncodeOfDecode : decode [0xBD, 0xFF, 0xFF, 0x00] = .ok (.lda (.absx 0xFFFF), [0x00]) := rfl
theorem witness_BusWriteThenRead : State.reset.Inv ∧ ramAt State.reset 0x0000 = true ∧ ramAt State.reset 0xFFFF = true ∧
    boardState.Inv ∧ ramAt boardState 0x7FFF = true := by decide

/-- Stack pages of each kind, and the ends of the page. -/
theorem witness_StackPushAndPull : boardState.Inv ∧ ramAt { boardState with S := 0x00 } (stackAddr 0x00) = true ∧
    readOnlyAt { boardState with devices := [⟨0x0100, 0x100, false, .rom⟩] } (stackAddr 0xFF) = true ∧
    readableAt { boardState with devices := [] } (stackAddr 0x00) = false ∧
    holdsBytes boardState.devices (stackAddr (0xFF + 1)) = true ∧
    (State.Inv { boardState with devices := [⟨0x0100, 0x100, false, .rom⟩], mem := [] }) ∧
    (State.Inv { boardState with devices := [], mem := [] }) := by decide
theorem witness_StackPushAndPull_bus : (∃ t, busWrite (stackAddr 0x00) 0x12 boardState = .ok () t) ∧
    (∃ e t, busWrite (stackAddr 0xFF) 0x12 { boardState with devices := [⟨0x0100, 0x100, false, .rom⟩] } = .error e t) ∧
    (∃ b t, busRead (stackAddr 0x00) { boardState with S := 0x00 } = .ok b t) ∧
    ∃ e t, busRead (stackAddr 0xFE) { boardState with devices := [], S := 0xFE } = .error e t :=
  ⟨⟨_, rfl⟩, ⟨_, _, rfl⟩, ⟨_, _, rfl⟩, _, _, rfl⟩
theorem witness_EffectiveAddresses : ∀ a, holdsBytes State.reset.devices a = true := reset_holdsBytes
theorem witness_PointerHighByteAddress : lo 0x12FE ≠ 0xFF ∧ lo 0x12FF = 0xFF ∧
    ∀ a, holdsBytes State.reset.devices a = true := ⟨by decide, by decide, reset_holdsBytes⟩
theorem witness_UnownedOperandFaults : (Instr.sta (.abs 0xA000)).wf = true ∧ readableAt boardState 0xA000 = false ∧
    (Instr.sta (.abs 0xA000)).operand = .abs 0xA000 ∧
    readableAt { boardState with devices := [] } (zext 0xFF) = false ∧ (Instr.bbr0 0xFF 0x00).operand = .zprel 0xFF 0x00 ∧
    (Instr.undef 0x44 (.zp 0xFF)).wf = true := by decide
/-- Each clause on a RAM that ends before the address: an indexed operand, a pointer's low byte, its high byte across the
page, and what it points at. -/
theorem witness_UnownedOperandFaults_modes :
    let s := { State.reset with devices := [⟨0x0000, 0x100, false, .ram⟩], X := 0x01, mem := [(0xFE, 0xFF), (0xFF, 0x01)] }
    (Instr.lda (.absx 0x00FF)).wf = true ∧ readableAt s (0x00FF + zext s.X) = false ∧
    (Instr.jmp (.absindx 0x00FF)).wf = true ∧ (Instr.jmp (.ind 0x00FF)).wf = true ∧
    busRead 0x00FF s = .ok 0x01 s ∧ readableAt s (ptrhi 0x00FF false) = false ∧
    (Instr.sta (.zpind 0xFE)).wf = true ∧ busRead 0x00FE s = .ok 0xFF s ∧ busRead (ptrhi 0x00FE false) s = .ok 0x01 s ∧
    readableAt s (word 0x01 0xFF + 0) = false :=
  ⟨by decide, by decide, by decide, by decide, rfl, by decide, by decide, rfl, rfl, by decide⟩
theorem witness_UnownedOperandFaults_pointer : ∃ e t, resolve (.zpind 0x00) { boardState with devices := [] } = .error e t :=
  ⟨_, _, rfl⟩

/-- Boards whose stack page is read-only, external, absent, or read-only below 0x01FE. -/
def stackBoard (d : List Device) : State := { State.reset with devices := d, mem := [] }
theorem witness_stack_boards :
    (stackBoard [⟨0x0000, 0x200, false, .rom⟩]).Inv ∧
    readOnlyAt (stackBoard [⟨0x0000, 0x200, false, .rom⟩]) (stackAddr State.reset.S) = true ∧
    (stackBoard [⟨0x0100, 0x100, false, .external false⟩]).Inv ∧
    ownerOf (stackBoard [⟨0x0100, 0x100, false, .external false⟩]).devices (stackAddr State.reset.S).toNat =
      some ⟨0x0100, 0x100, false, .external false⟩ ∧
    (stackBoard []).Inv ∧ readableAt (stackBoard []) (stackAddr State.reset.S) = false ∧
    readableAt (stackBoard []) (stackAddr (State.reset.S + 1)) = false := by decide

/-- The second byte JSR pushes lies in a ROM and the first in a RAM. -/
theorem witness_JsrPushesReturnAddress_second :
    let s := stackBoard [⟨0x0000, 0x1FD, false, .rom⟩, ⟨0x01FD, 3, false, .ram⟩]
    s.Inv ∧ Resolves (.jsr 0x0000) s 0x20 ⟨.addr 0x0000, some 0x00, false, none⟩ s ∧
    ramAt s (stackAddr s.S) = true ∧ readOnlyAt s (stackAddr (s.S - 1)) = true :=
  ⟨by decide, ⟨rfl, rfl⟩, by decide, by decide⟩

/-- The stack page lies in a RAM and no device owns the vector. -/
theorem witness_BrkTakesException_vector :
    let s := stackBoard [⟨0x0000, 0x8000, false, .ram⟩]
    s.Inv ∧ stackRam s ∧ readableAt s 0xFFFE = false :=
  ⟨by decide, by unfold stackRam; decide, by decide⟩

/-- RAM at the first push of JSR and a read-only device at the second; and a vector no device owns. -/
theorem witness_faults_after_pushes :
    (stackBoard [⟨0x0000, 0x1FD, false, .rom⟩, ⟨0x01FD, 0x1000, false, .ram⟩]).Inv ∧
    ramAt (stackBoard [⟨0x0000, 0x1FD, false, .rom⟩, ⟨0x01FD, 0x1000, false, .ram⟩]) (stackAddr 0xFD) = true ∧
    readOnlyAt (stackBoard [⟨0x0000, 0x1FD, false, .rom⟩, ⟨0x01FD, 0x1000, false, .ram⟩]) (stackAddr (0xFD - 1)) = true ∧
    (stackBoard [⟨0x0000, 0x200, false, .ram⟩]).Inv ∧ readableAt (stackBoard [⟨0x0000, 0x200, false, .ram⟩]) 0xFFFE = false ∧
    ∃ r s1, Resolves (.jsr 0x0000) (stackBoard [⟨0x0000, 0x1FD, false, .rom⟩, ⟨0x01FD, 0x1000, false, .ram⟩]) 0x20 r s1 :=
  ⟨by decide, by decide, by decide, by decide, by decide, _, _, rfl, rfl⟩
theorem witness_stackRam_small : stackRam (stackBoard [⟨0x0000, 0x200, false, .ram⟩]) := by
  unfold stackRam; decide

/-- Each load resolves, also from an external device. -/
theorem witness_LoadsPutOperandInRegister :
    Resolves (.lda (.absx 0xFFFF)) State.reset 0xBD ⟨.addr 0xFFFF, some 0x00, false, none⟩ State.reset ∧
    Resolves (.ldx (.zpy 0xFF)) State.reset 0xB6 ⟨.addr 0x00FF, some 0x00, false, none⟩ State.reset ∧
    Resolves (.ldy (.imm 0x80)) State.reset 0xA0 ⟨.addr (0x0000 - 1), some 0x80, false, none⟩ State.reset ∧
    Resolves (.lda (.abs 0x8010)) boardState 0xAD ⟨.addr 0x8010, some (Config.deviceAnswer 0), false, none⟩
      { boardState with draws := 1, deviceLog := [⟨0x8000, 0x10, none⟩] } := ⟨⟨rfl, rfl⟩, ⟨rfl, rfl⟩, ⟨rfl, rfl⟩, rfl, rfl⟩

/-- Each store resolves; a RAM, an external and a read-only location. -/
theorem witness_StoresWriteRegister : boardState.Inv ∧
    Resolves (.sta (.abs 0x7FFF)) boardState 0x8D ⟨.addr 0x7FFF, some 0x00, false, none⟩ boardState ∧
    Resolves (.stx (.zpy 0xFF)) boardState 0x96 ⟨.addr 0x00FF, some 0x00, false, none⟩ boardState ∧
    Resolves (.sty (.zp 0x00)) boardState 0x84 ⟨.addr 0x0000, some 0x00, false, none⟩ boardState ∧
    Resolves (.stz (.absx 0xF000)) boardState 0x9E ⟨.addr 0xF000, some 0x00, false, none⟩ boardState ∧
    Resolves (.sta (.abs 0x8010)) boardState 0x8D ⟨.addr 0x8010, some (Config.deviceAnswer 0), false, none⟩
      { boardState with draws := 1, deviceLog := [⟨0x8000, 0x10, none⟩] } ∧
    ramAt boardState 0x7FFF = true ∧ readOnlyAt boardState 0xF000 = true ∧ readOnlyAt boardState 0x9FFF = true ∧
    ownerOf boardState.devices 0x8FFF = some ⟨0x8000, 0x1000, false, .external false⟩ :=
  ⟨boardState_inv, ⟨rfl, rfl⟩, ⟨rfl, rfl⟩, ⟨rfl, rfl⟩, ⟨rfl, rfl⟩, ⟨rfl, rfl⟩, by decide, by decide, by decide, by decide⟩
theorem witness_PushesStoreOnStack : State.Inv { boardState with S := 0x00 } ∧
    ramAt { boardState with S := 0x00 } (stackAddr 0x00) = true := by decide
theorem witness_PullsLoadFromStack : holdsBytes boardState.devices (stackAddr (0xFF + 1)) = true ∧
    holdsBytes boardState.devices (stackAddr (0xFE + 1)) = true := by decide

/-- The operand of the arithmetic, logical and compare instructions. -/
theorem resolves_imm (i : Instr) (op b : Byte) (s : State) (h : i.opcode? = some op) (ho : i.operand = .imm b) :
    Resolves i s op ⟨.addr (s.PC - 1), some b, false, none⟩ s := ⟨h, by rw [ho]; rfl⟩
theorem witness_BinaryAddition :
    Resolves (.adc (.imm 0xFF)) State.reset 0x69 ⟨.addr (0x0000 - 1), some 0xFF, false, none⟩ State.reset ∧
    flagD State.reset.P = false := ⟨⟨rfl, rfl⟩, by decide⟩
theorem witness_BinarySubtraction :
    Resolves (.sbc (.zpind 0xFF)) State.reset 0xF2 ⟨.addr 0x0000, some 0x00, false, none⟩ State.reset ∧
    flagD State.reset.P = false := ⟨⟨rfl, rfl⟩, by decide⟩

/-- Both values of `DECIMAL_NZ`. -/
theorem witness_DecimalAddition : Resolves (.adc (.imm 0x99)) { State.reset with P := 0x3C } 0x69
      ⟨.addr (0x0000 - 1), some 0x99, false, none⟩ { State.reset with P := 0x3C } ∧
    flagD 0x3C = true ∧ State.reset.params.decimalNZ = .final ∧
    ({ Config.defaults with decimalNZ := .nmos } : Params).decimalNZ = .nmos := ⟨⟨rfl, rfl⟩, by decide, rfl, rfl⟩
theorem witness_DecimalSubtraction : Resolves (.sbc (.imm 0x0F)) { State.reset with P := 0x3C } 0xE9
      ⟨.addr (0x0000 - 1), some 0x0F, false, none⟩ { State.reset with P := 0x3C } ∧ flagD 0x3C = true :=
  ⟨⟨rfl, rfl⟩, by decide⟩
theorem witness_DecimalArithmeticIsDecimal : (99 < 100 ∧ 0 < 100) ∧ (0x99 : Byte).toNat = 99 / 10 * 16 + 99 % 10 ∧
    (0x00 : Byte).toNat = 0 / 10 * 16 + 0 % 10 ∧ flagD 0x3D = true := by decide
theorem witness_ComparesSetFlags :
    Resolves (.cmp (.imm 0xFF)) State.reset 0xC9 ⟨.addr (0x0000 - 1), some 0xFF, false, none⟩ State.reset ∧
    Resolves (.cpx (.zp 0xFF)) State.reset 0xE4 ⟨.addr 0x00FF, some 0x00, false, none⟩ State.reset ∧
    Resolves (.cpy (.abs 0xFFFF)) State.reset 0xCC ⟨.addr 0xFFFF, some 0x00, false, none⟩ State.reset :=
  ⟨⟨rfl, rfl⟩, ⟨rfl, rfl⟩, ⟨rfl, rfl⟩⟩

/-- Memory and accumulator forms. -/
theorem witness_IncrementAndDecrementInPlace : boardState.Inv ∧
    Resolves (.inc .acc) boardState 0x1A ⟨.acc, some 0x00, false, none⟩ boardState ∧
    Resolves (.dec (.absx 0xF000)) boardState 0xDE ⟨.addr 0xF000, some 0x00, false, none⟩ boardState ∧
    readOnlyAt boardState 0xF000 = true := ⟨boardState_inv, ⟨rfl, rfl⟩, ⟨rfl, rfl⟩, by decide⟩
theorem witness_LogicIntoAccumulator :
    Resolves (.and (.imm 0x0F)) State.reset 0x29 ⟨.addr (0x0000 - 1), some 0x0F, false, none⟩ State.reset ∧
    Resolves (.ora (.indx 0xFF)) State.reset 0x01 ⟨.addr 0x0000, some 0x00, false, none⟩ State.reset ∧
    Resolves (.eor (.absy 0xFFFF)) State.reset 0x59 ⟨.addr 0xFFFF, some 0x00, false, none⟩ State.reset :=
  ⟨⟨rfl, rfl⟩, ⟨rfl, rfl⟩, ⟨rfl, rfl⟩⟩
theorem witness_BitTestsOperand :
    Resolves (.bit (.imm 0xC0)) State.reset 0x89 ⟨.addr (0x0000 - 1), some 0xC0, false, none⟩ State.reset ∧
    Resolves (.bit (.zpx 0xFF)) State.reset 0x34 ⟨.addr 0x00FF, some 0x00, false, none⟩ State.reset ∧
    (Operand.imm 0xC0).mode = .IMM ∧ (Operand.zpx 0xFF).mode ≠ .IMM := ⟨⟨rfl, rfl⟩, ⟨rfl, rfl⟩, rfl, by decide⟩
theorem witness_TestAndResetOrSetBits : boardState.Inv ∧
    Resolves (.trb (.zp 0xFF)) boardState 0x14 ⟨.addr 0x00FF, some 0x00, false, none⟩ boardState ∧
    Resolves (.tsb (.abs 0xFFFF)) boardState 0x0C ⟨.addr 0xFFFF, some 0x00, false, none⟩ boardState ∧
    readOnlyAt boardState 0xFFFF = true := ⟨boardState_inv, ⟨rfl, rfl⟩, ⟨rfl, rfl⟩, by decide⟩
theorem witness_ResetMemoryBit : boardState.Inv ∧
    Resolves (.rmb0 0x00) boardState 0x07 ⟨.addr 0x0000, some 0x00, false, none⟩ boardState ∧
    Resolves (.rmb7 0xFF) boardState 0x77 ⟨.addr 0x00FF, some 0x00, false, none⟩ boardState :=
  ⟨boardState_inv, ⟨rfl, rfl⟩, ⟨rfl, rfl⟩⟩
theorem witness_SetMemoryBit : boardState.Inv ∧
    Resolves (.smb0 0x00) boardState 0x87 ⟨.addr 0x0000, some 0x00, false, none⟩ boardState ∧
    Resolves (.smb7 0xFF) boardState 0xF7 ⟨.addr 0x00FF, some 0x00, false, none⟩ boardState :=
  ⟨boardState_inv, ⟨rfl, rfl⟩, ⟨rfl, rfl⟩⟩
theorem witness_ShiftsAndRotates : boardState.Inv ∧
    Resolves (.asl .acc) boardState 0x0A ⟨.acc, some 0x00, false, none⟩ boardState ∧
    Resolves (.lsr (.zp 0xFF)) boardState 0x46 ⟨.addr 0x00FF, some 0x00, false, none⟩ boardState ∧
    Resolves (.rol (.absx 0xFFFF)) boardState 0x3E ⟨.addr 0xFFFF, some 0x00, false, none⟩ boardState ∧
    Resolves (.ror (.zpx 0xFF)) boardState 0x76 ⟨.addr 0x00FF, some 0x00, false, none⟩ boardState ∧
    readOnlyAt boardState 0xFFFF = true :=
  ⟨boardState_inv, ⟨rfl, rfl⟩, ⟨rfl, rfl⟩, ⟨rfl, rfl⟩, ⟨rfl, rfl⟩, by decide⟩
theorem witness_BranchesOnBits :
    Resolves (.bbr0 0xFF 0x80) State.reset 0x0F ⟨.addr 0x00FF, some 0x00, false, some 0x80⟩ State.reset ∧
    Resolves (.bbs7 0x00 0x7F) State.reset 0xFF ⟨.addr 0x0000, some 0x00, false, some 0x7F⟩ State.reset :=
  ⟨⟨rfl, rfl⟩, ⟨rfl, rfl⟩⟩
theorem witness_JumpSetsPc :
    Resolves (.jmp (.ind 0xFFFF)) State.reset 0x6C ⟨.addr 0x0000, some 0x00, false, none⟩ State.reset ∧
    Resolves (.jmp (.absindx 0xFFFF)) State.reset 0x7C ⟨.addr 0x0000, some 0x00, false, none⟩ State.reset ∧
    Resolves (.jmp (.abs 0xFFFF)) State.reset 0x4C ⟨.addr 0xFFFF, some 0x00, false, none⟩ State.reset :=
  ⟨⟨rfl, rfl⟩, ⟨rfl, rfl⟩, ⟨rfl, rfl⟩⟩

/-- A stack pointer at the bottom of the page. -/
theorem witness_JsrPushesReturnAddress : State.Inv { boardState with S := 0x00 } ∧
    Resolves (.jsr 0xFFFF) { boardState with S := 0x00 } 0x20 ⟨.addr 0xFFFF, some 0x00, false, none⟩
      { boardState with S := 0x00 } ∧
    ramAt { boardState with S := 0x00 } (stackAddr 0x00) = true ∧
    ramAt { boardState with S := 0x00 } (stackAddr (0x00 - 1)) = true := ⟨by decide, ⟨rfl, rfl⟩, by decide, by decide⟩
theorem witness_RtsReturnsPastAddress : holdsBytes boardState.devices (stackAddr (0xFE + 1)) = true ∧
    holdsBytes boardState.devices (stackAddr (0xFE + 2)) = true := by decide
theorem witness_RtsUndoesJsr : State.reset.Inv ∧ stackRam State.reset ∧
    ∃ t u, exec (.jsr 0xFFFF) State.reset = .next t ∧ exec .rts t = .next u :=
  ⟨by decide, fun i => reset_ramAt (stackAddr i), _, _, rfl, rfl⟩
theorem witness_UndefinedOpcodeRecords :
    Resolves (.undef 0x5C (.abs 0xFFFF)) State.reset 0x5C ⟨.addr 0xFFFF, some 0x00, false, none⟩ State.reset ∧
    Resolves (.undef 0x03 .imp) State.reset 0x03 ⟨.none, none, false, none⟩ State.reset := ⟨⟨rfl, rfl⟩, ⟨rfl, rfl⟩⟩
theorem witness_BrkTakesException : State.reset.Inv ∧ stackRam State.reset ∧
    holdsBytes State.reset.devices 0xFFFE = true ∧ holdsBytes State.reset.devices 0xFFFF = true :=
  ⟨by decide, fun i => reset_ramAt (stackAddr i), by decide, by decide⟩
theorem witness_RtiRestoresStatusAndPc : ∀ k ∈ [1#8, 2#8, 3#8], holdsBytes boardState.devices (stackAddr (0xFD + k)) = true := by
  decide
theorem witness_RtiUndoesExceptionEntry : State.reset.Inv ∧ stackRam State.reset ∧
    (∃ t u, exec .brk State.reset = .next t ∧ exec .rti t = .next u) ∧
    (∃ t u, nmi State.reset = .next t ∧ exec .rti t = .next u) ∧
    (∃ t u, irq { State.reset with P := 0x30 } = .next t ∧ exec .rti t = .next u) ∧ State.reset.phase = .running ∧
    State.reset.stopped = false ∧ flagI 0x30 = false :=
  ⟨by decide, fun i => reset_ramAt (stackAddr i), ⟨_, _, rfl, rfl⟩, ⟨_, _, rfl, rfl⟩, ⟨_, _, rfl, rfl⟩, rfl, rfl, by decide⟩

/-- An instruction across the end of the address space; what the fetch answers; and a PC no device owns. -/
theorem witness_StepRunsDecodedInstruction :
    let s := startAt 0xFFFE [0xAD, 0xFF] [(0x0000, 0x12)]
    s.hostCalls = [] ∧ s.phase = .running ∧ s.countdown = 0 ∧ s.waiting = false ∧ s.stopped = false ∧
    decode [s.byteAt s.PC, s.byteAt (s.PC + 1), s.byteAt (s.PC + 2)] = .ok (.lda (.abs 0x12FF), []) ∧
    3 = instrLength (s.byteAt s.PC) ∧ (∀ k < 3, holdsBytes s.devices (s.PC + BitVec.ofNat 16 k) = true) ∧
    fetchInstruction s = .ok (.lda (.abs 0x12FF)) { s with PC := 0x0001 } ∧
    readableAt { boardState with PC := 0xA000 } 0xA000 = false :=
  ⟨rfl, rfl, rfl, rfl, rfl, rfl, by decide, by decide, rfl, by decide⟩
theorem witness_ClockCountsThenExecutes : State.reset.phase = .running ∧ 0 < State.reset.countdown ∧
    (startAt 0x0200 [0xEA] []).phase = .running ∧ (startAt 0x0200 [0xEA] []).countdown = 0 ∧
    fetchInstruction (startAt 0x0200 [0xEA] []) = .ok .nop { startAt 0x0200 [0xEA] [] with PC := 0x0201 } ∧
    (∃ u, exec .nop { startAt 0x0200 [0xEA] [] with PC := 0x0201 } = .next u) ∧
    (∃ t, fetchInstruction (onBoard [0x8D, 0x00, 0xF0]) = .ok (.sta (.abs 0xF000)) t ∧
      ∃ f, exec (.sta (.abs 0xF000)) t = .fault f) ∧
    ∃ e t, fetchInstruction { boardState with PC := 0xA000 } = .error e t :=
  ⟨rfl, by decide, rfl, rfl, rfl, ⟨_, rfl⟩, ⟨_, rfl, _, rfl⟩, _, _, rfl⟩
theorem witness_StepMakesHostCalls : State.reset.attached = true ∧ (State.constructed Config.defaults).attached = false ∧
    (State.constructed Config.defaults).phase = .constructed ∧
    ({ State.constructed Config.defaults with phase := .faulted } : State).phase = .faulted ∧
    ({ State.constructed Config.defaults with phase := .notOperational } : State).phase = .notOperational :=
  ⟨rfl, rfl, rfl, rfl, rfl⟩
theorem witness_ResetSetsRegisters : State.reset.phase ≠ .notOperational ∧
    read16 0xFFFC State.reset = .ok 0x0000 State.reset ∧ holdsBytes State.reset.devices 0xFFFC = true ∧
    holdsBytes State.reset.devices 0xFFFD = true ∧ (State.constructed Config.defaults).phase ≠ .notOperational ∧
    readableAt (State.constructed Config.defaults) 0xFFFC = false ∧
    holdsBytes [⟨0x0000, 0xFFFD, false, .ram⟩] 0xFFFC = true ∧
    readableAt { State.reset with devices := [⟨0x0000, 0xFFFD, false, .ram⟩] } 0xFFFD = false :=
  ⟨by decide, rfl, by decide, by decide, by decide, by decide, by decide, by decide⟩
theorem witness_CallsRefusedOutsideRun : (State.constructed Config.defaults).phase = .constructed ∧
    ({ State.reset with phase := .faulted } : State).phase = .faulted ∧
    ({ State.reset with phase := .notOperational } : State).phase = .notOperational ∧ State.reset.phase = .running ∧
    (HostCall.listNext 0).isListing = true ∧ HostCall.busIrq ≠ .reset ∧
    ({ State.constructed Config.defaults with attached := true } : State).phase = .constructed :=
  ⟨rfl, rfl, rfl, rfl, rfl, by decide, rfl⟩

/-- Stopped; masked; and taken, by either call. -/
theorem witness_InterruptCalls : State.reset.Inv ∧ State.reset.phase = .running ∧
    ({ State.reset with stopped := true } : State).stopped = true ∧ flagI State.reset.P = true ∧
    State.reset.stopped = false ∧ stackRam State.reset ∧ flagI 0x30 = false ∧
    State.Inv { State.reset with P := 0x30 } ∧ holdsBytes State.reset.devices 0xFFFE = true ∧
    holdsBytes State.reset.devices (0xFFFE + 1) = true ∧ holdsBytes State.reset.devices 0xFFFA = true ∧
    holdsBytes State.reset.devices (0xFFFA + 1) = true :=
  ⟨by decide, rfl, rfl, by decide, rfl, fun i => reset_ramAt (stackAddr i), by decide, by decide, by decide, by decide,
    by decide, by decide⟩

/-- A bus with one device: size 0, past the end, touching, and overlapping by one address. -/
theorem witness_RegistrationChecksRanges :
    let s := { State.constructed Config.defaults with devices := [⟨0x0000, 0x8000, false, .ram⟩] }
    s.Inv ∧ s.phase = .constructed ∧ (⟨0x8000, 0, false, .ram⟩ : Device).size = 0 ∧ 0x10000 < 0x8000 + 0x8001 ∧
    0x8000 + 0x8000 ≤ 0x10000 ∧ (∀ e ∈ s.devices, (⟨0x8000, 0x8000, false, .ram⟩ : Device).overlaps e = false) ∧
    (⟨0x7FFF, 1, false, .ram⟩ : Device).owns 0x7FFF = true ∧ (⟨0x0000, 0x8000, false, .ram⟩ : Device).owns 0x7FFF = true := by
  decide

/-- The last bytes of a ROM, and the whole stream past it is refused. -/
theorem witness_LoadFillsBackingStore :
    let d : Device := ⟨0xF000, 0x1000, false, .rom⟩
    let s := { State.constructed Config.defaults with devices := [d] }
    s.Inv ∧ s.phase = .constructed ∧ s.devices[0]? = some d ∧ d.kind = .rom ∧ d.holds 0x0FFE 2 = true ∧
    d.holds 0x0FFE 3 = false := by decide

theorem witness_ListingChangesNothing : (∀ a, holdsBytes State.reset.devices a = true) ∧
    (listCommands (-1) 2 State.reset).1.error = none ∧ (listCommands (-1) 2 State.reset).1.pairs.map (·.1) = [0x0000, 0x0001] :=
  ⟨reset_holdsBytes, by decide, by decide⟩
theorem witness_ListingChangesNothing_calls : State.reset.phase = .running ∧
    (listCommands (-1) 1 { boardState with PC := 0xA000 }).1.error = some 0xA000 ∧
    ({ State.reset with listings := [Listing.started 0 0xFFFF] } : State).listings[0]? = some (Listing.started 0 0xFFFF) :=
  ⟨rfl, by decide, rfl⟩
theorem witness_StepKeepsInvariant : State.reset.Inv ∧ (∃ t, step State.reset = .next t) ∧ boot.Inv ∧
    ∃ t, step boot = .next t := ⟨by decide, ⟨_, rfl⟩, by decide, _, rfl⟩
theorem witness_RomNeverChanges : boardState.phase = .running ∧ (∃ t, step boardState = .next t) ∧
    romAt boardState 0xF000 = true ∧ romAt boardState 0xFFFF = true := ⟨rfl, ⟨_, rfl⟩, by decide, by decide⟩
theorem witness_ConfigurationIsConstant : State.reset.phase ≠ .constructed ∧ (∃ t, step State.reset = .next t) ∧
    ∃ t, step boot = .next t := ⟨by decide, ⟨_, rfl⟩, _, rfl⟩
theorem witness_StoppedUntilReset_listing :
    ∃ t, step { State.reset with stopped := true, hostCalls := [.listCommands 1] } = .next t := ⟨_, rfl⟩
theorem witness_StoppedUntilReset : ({ State.reset with stopped := true } : State).phase = .running ∧
    (∃ t, step { State.reset with stopped := true } = .next t) ∧
    (∀ rest, ({ State.reset with stopped := true } : State).hostCalls ≠ .reset :: rest) ∧
    (∃ t, exec .stp State.reset = .next t) ∧ ∃ t, resetCall { State.reset with stopped := true } = .next t :=
  ⟨rfl, ⟨_, rfl⟩, fun _ h => (nomatch h), ⟨_, rfl⟩, _, rfl⟩
theorem witness_WaitingUntilInterrupt : ({ State.reset with waiting := true } : State).hostCalls = [] ∧
    (∃ t, step { State.reset with waiting := true } = .next t) ∧
    (∃ t, step { State.reset with waiting := true, countdown := 0, hostCalls := [.clock] } = .next t) ∧
    (∃ t, exec .wai State.reset = .next t) ∧ (∃ t, resetCall { State.reset with waiting := true } = .next t) ∧
    (∃ t, irq { State.reset with waiting := true } = .next t) ∧ ∃ t, nmi { State.reset with waiting := true } = .next t :=
  ⟨rfl, ⟨_, rfl⟩, ⟨_, rfl⟩, ⟨_, rfl⟩, ⟨_, rfl⟩, ⟨_, rfl⟩, _, rfl⟩
theorem witness_BreakAndInterruptFlagWriters : (∃ t, exec .sei State.reset = .next t) ∧
    Instr.sei.operation ≠ .PLP ∧ Instr.sei.operation ≠ .RTI ∧ (∃ t, exec .cld State.reset = .next t) ∧
    Instr.cld.operation ∉ [Operation.CLI, .SEI, .BRK] ∧ Instr.clc.operation ∉ [Operation.CLD, .SED, .BRK] ∧
    ∃ t, exec .clc State.reset = .next t := ⟨⟨_, rfl⟩, by decide, by decide, ⟨_, rfl⟩, by decide, by decide, _, rfl⟩
theorem witness_EveryInstructionCompletes : (Instr.undef 0xFC (.abs 0xFFFF)).wf = true ∧
    ∀ a, writableAt State.reset a = true := ⟨by decide, reset_writableAt⟩
theorem witness_OnlyIllFormedRefused : (Instr.lda .acc).wf = false ∧ (Instr.lda (.imm 0)).wf = true := by decide
theorem witness_TimingChangesOnlyCountdown : ∃ t, exec .brk State.reset = .next t := ⟨_, rfl⟩

end Sys2Proof.Tests
end

section
/-!
PROOFS. What a host call of a run can change, said once for every instruction and every call, and from it that the
configuration is constant. An operation of the core is a chain of primitive changes (`CoreChange`): a write of a RAM
byte, or a change outside the memory and the configuration. A property that both kinds of change keep holds across every
instruction (`OnlyCoreChanges.of_exec`) and every call of a run; `perform_cases` sets these apart from `reset()` and the
setup calls.
-/

namespace Sys2Proof.Machine

/-! ## The configuration -/

/-- The two states have the same parameters, range table and attachment, and accept the same calls. -/
structure SameConfig (s t : State) : Prop where
  params : t.params = s.params
  devices : t.devices = s.devices
  attached : t.attached = s.attached
  phase : t.phase = s.phase

theorem SameConfig.refl (s : State) : SameConfig s s := ⟨rfl, rfl, rfl, rfl⟩

theorem SameConfig.trans {s t u : State} (h1 : SameConfig s t) (h2 : SameConfig t u) : SameConfig s u :=
  ⟨h2.params.trans h1.params, h2.devices.trans h1.devices, h2.attached.trans h1.attached, h2.phase.trans h1.phase⟩

/-! ## Primitive changes and their chains -/

/-- A primitive change of a running core. -/
inductive CoreChange (s : State) : State → Prop
  /-- Nothing of the memory or the configuration changes. -/
  | outsideMemory {t : State} (config : SameConfig s t) (mem : t.mem = s.mem) : CoreChange s t
  /-- A RAM stores a byte (20_memory.md R210). -/
  | ramWrite {a : Word} (v : Byte) (h : ramAt s a = true) :
      CoreChange s { s with mem := Memory.write s.params.ramInit s.mem a.toNat v }

/-- A chain of primitive changes. -/
abbrev CoreChanges : State → State → Prop := Relation.ReflTransGen CoreChange

theorem CoreChange.sameConfig {s t : State} (h : CoreChange s t) : SameConfig s t := by
  cases h with
  | outsideMemory config _ => exact config
  | ramWrite _ _ => exact ⟨rfl, rfl, rfl, rfl⟩

theorem CoreChanges.sameConfig {s t : State} (h : CoreChanges s t) : SameConfig s t := by
  induction h with
  | refl => exact .refl s
  | tail _ change ih => exact ih.trans change.sameConfig

/-- A change outside the memory and the configuration is a chain of one. -/
theorem CoreChanges.outsideMemory {s t : State} (config : SameConfig s t) (mem : t.mem = s.mem) : CoreChanges s t :=
  .single (.outsideMemory config mem)

theorem CoreChanges.of_sameButDevices {s t : State} (h : sameButDevices s t) : CoreChanges s t := by
  rw [h]
  exact .outsideMemory ⟨rfl, rfl, rfl, rfl⟩ rfl

/-! ## Operations that make primitive changes only -/

/-- The operation, when it succeeds, has made a chain of primitive changes. -/
def OnlyCoreChanges {α : Type} (x : Op α) : Prop := ∀ ⦃s t : State⦄ ⦃a : α⦄, x s = .ok a t → CoreChanges s t

namespace OnlyCoreChanges

theorem bind {α β : Type} {x : Op α} {f : α → Op β} (hx : OnlyCoreChanges x) (hf : ∀ a, OnlyCoreChanges (f a)) :
    OnlyCoreChanges (x >>= f) := by
  intro s t b h
  obtain ⟨a, u, h1, h2⟩ := bind_ok h
  exact (hx h1).trans (hf a h2)

theorem pure {α : Type} (a : α) : OnlyCoreChanges (pure a) := by
  intro s t b h
  cases h
  exact .refl

theorem getState : OnlyCoreChanges getState := by
  intro s t b h
  cases h
  exact .refl

theorem update {f : State → State} (hc : ∀ s, SameConfig s (f s)) (hm : ∀ s, (f s).mem = s.mem) :
    OnlyCoreChanges (update f) := by
  intro s t b h
  cases h
  exact .outsideMemory (hc s) (hm s)

theorem plain {x : Op Unit} (hx : OnlyCoreChanges x) : OnlyCoreChanges (plain x) := hx.bind fun _ => .pure 0

theorem ite {α : Type} {b : Bool} {x y : Op α} (hx : OnlyCoreChanges x) (hy : OnlyCoreChanges y) :
    OnlyCoreChanges (if b then x else y) := by
  cases b with
  | true => exact hx
  | false => exact hy

/-! ### Registers -/

theorem setA (v : Byte) : OnlyCoreChanges (setA v) := update (fun _ => ⟨rfl, rfl, rfl, rfl⟩) fun _ => rfl
theorem setX (v : Byte) : OnlyCoreChanges (setX v) := update (fun _ => ⟨rfl, rfl, rfl, rfl⟩) fun _ => rfl
theorem setY (v : Byte) : OnlyCoreChanges (setY v) := update (fun _ => ⟨rfl, rfl, rfl, rfl⟩) fun _ => rfl
theorem setS (v : Byte) : OnlyCoreChanges (setS v) := update (fun _ => ⟨rfl, rfl, rfl, rfl⟩) fun _ => rfl
theorem setPC (v : Word) : OnlyCoreChanges (setPC v) := update (fun _ => ⟨rfl, rfl, rfl, rfl⟩) fun _ => rfl
theorem updateP (f : Byte → Byte) : OnlyCoreChanges (updateP f) :=
  update (fun _ => ⟨rfl, rfl, rfl, rfl⟩) fun _ => rfl
theorem updateNZ (v : Byte) : OnlyCoreChanges (updateNZ v) := updateP (setNZ v)
theorem loadCountdown (op : Byte) (extra : Bool) (adj : Nat) : OnlyCoreChanges (loadCountdown op extra adj) :=
  update (fun _ => ⟨rfl, rfl, rfl, rfl⟩) fun _ => rfl
theorem recordUnsupported (op : Byte) (addr : Word) : OnlyCoreChanges (recordUnsupported op addr) :=
  update (fun _ => ⟨rfl, rfl, rfl, rfl⟩) fun _ => rfl

/-! ### The bus and the stack -/

theorem busRead (a : Word) : OnlyCoreChanges (busRead a) := fun _ _ _ h => .of_sameButDevices (busRead_frame h)

theorem busWrite (a : Word) (v : Byte) : OnlyCoreChanges (busWrite a v) := by
  intro s t _ h
  rcases busWrite_ok h with ⟨hram, rfl⟩ | ⟨l, rfl⟩
  · exact .single (.ramWrite v hram)
  · exact .outsideMemory ⟨rfl, rfl, rfl, rfl⟩ rfl

theorem read16 (a : Word) : OnlyCoreChanges (read16 a) := fun _ _ _ h => .of_sameButDevices (read16_frame h)

theorem resolve (o : Operand) : OnlyCoreChanges (resolve o) := fun _ _ _ h => .of_sameButDevices (resolve_frame h)

theorem store (loc : Loc) (v : Byte) : OnlyCoreChanges (store loc v) := by
  cases loc with
  | acc => exact setA v
  | addr a => exact busWrite a v
  | none => exact .pure ()

theorem push (v : Byte) : OnlyCoreChanges (push v) :=
  getState.bind fun s => (busWrite _ v).bind fun _ => setS (s.S - 1)

theorem pull : OnlyCoreChanges pull := getState.bind fun s => (setS (s.S + 1)).bind fun _ => busRead _

theorem enterException (vector : Word) (image : Byte → Byte) : OnlyCoreChanges (enterException vector image) :=
  getState.bind fun s => (push (hi s.PC)).bind fun _ => (push (lo s.PC)).bind fun _ => (push (image s.P)).bind fun _ =>
    (updateP _).bind fun _ => (read16 vector).bind setPC

theorem returnFromException : OnlyCoreChanges returnFromException :=
  pull.bind fun _ => (updateP _).bind fun _ => pull.bind fun _ => pull.bind fun _ => setPC _

theorem enterInterrupt (vector : Word) : OnlyCoreChanges (enterInterrupt vector) :=
  (enterException vector imageHw).bind fun _ => update (fun _ => ⟨rfl, rfl, rfl, rfl⟩) fun _ => rfl

/-! ### Fetching -/

theorem fetch : OnlyCoreChanges fetch :=
  getState.bind fun s => (busRead s.PC).bind fun b => (setPC _).bind fun _ => .pure b

theorem fetchInstruction : OnlyCoreChanges fetchInstruction := by
  refine fetch.bind fun op => ?_
  match operandBytes (tableEntry op).mode with
  | 0 => exact .pure _
  | 1 => exact fetch.bind fun _ => .pure _
  | _ + 2 => exact fetch.bind fun _ => fetch.bind fun _ => .pure _

/-! ### The operations instructions share -/

section
variable (r : Resolved)

theorem intoA (alu : DecimalNZ → Byte → Byte → Byte → Byte × Byte) : OnlyCoreChanges (intoA alu r) :=
  plain <| getState.bind fun _ => (updateP _).bind fun _ => setA _

theorem compareWith (register : State → Byte) : OnlyCoreChanges (compareWith register r) :=
  plain <| getState.bind fun _ => updateP _

theorem stepInPlace (f : Byte → Byte) : OnlyCoreChanges (stepInPlace f r) :=
  plain <| (store _ _).bind fun _ => updateNZ _

theorem storeValue (value : State → Byte) : OnlyCoreChanges (storeValue value r) :=
  plain <| getState.bind fun _ => store _ _

theorem logicA (f : Byte → Byte → Byte) : OnlyCoreChanges (logicA f r) :=
  plain <| getState.bind fun _ => (setA _).bind fun _ => updateNZ _

theorem testAndWrite (f : Byte → Byte → Byte) : OnlyCoreChanges (testAndWrite f r) :=
  plain <| getState.bind fun _ => (updateP _).bind fun _ => store _ _

theorem resetBit (n : Nat) : OnlyCoreChanges (resetBit n r) := plain (store _ _)

theorem setBit (n : Nat) : OnlyCoreChanges (setBit n r) := plain (store _ _)

theorem shiftInPlace (f : Bool → Byte → Byte × Bool) : OnlyCoreChanges (shiftInPlace f r) :=
  plain <| getState.bind fun _ => (updateP _).bind fun _ => (store _ _).bind fun _ => updateNZ _

theorem branch (taken : Bool) (disp : Byte) : OnlyCoreChanges (branch taken disp) :=
  getState.bind fun _ => .ite ((setPC _).bind fun _ => .pure _) (.pure 0)

theorem branchOnFlag (taken : Byte → Bool) : OnlyCoreChanges (branchOnFlag taken r) :=
  getState.bind fun _ => branch _ _

theorem branchOnBit (n : Nat) (value : Bool) : OnlyCoreChanges (branchOnBit n value r) := branch _ _

end

/-- A register takes a value, then N and Z say what it is. -/
theorem load {put : Byte → Op Unit} (hput : ∀ v, OnlyCoreChanges (put v)) (v : Byte) :
    OnlyCoreChanges (do put v; Machine.updateNZ v) := (hput v).bind fun _ => updateNZ v

theorem stepRegister (value : State → Byte) {put : Byte → Op Unit} (hput : ∀ v, OnlyCoreChanges (put v)) :
    OnlyCoreChanges (stepRegister value put) := plain <| getState.bind fun s => load hput (value s)

theorem transfer (source : State → Byte) {put : Byte → Op Unit} (hput : ∀ v, OnlyCoreChanges (put v)) :
    OnlyCoreChanges (transfer source put) := plain <| getState.bind fun s => load hput (source s)

theorem pushValue (value : State → Byte) : OnlyCoreChanges (pushValue value) :=
  plain <| getState.bind fun _ => push _

theorem pullValue {put : Byte → Op Unit} (hput : ∀ v, OnlyCoreChanges (put v)) : OnlyCoreChanges (pullValue put) :=
  plain <| pull.bind fun v => load hput v

theorem jumpTo (loc : Loc) : OnlyCoreChanges (jumpTo loc) := by
  cases loc with
  | addr a => exact setPC a
  | acc | none => exact .pure ()

/-! ### The instructions -/

/-- An instruction makes only primitive changes when its operation does. -/
theorem of_execute {i : Instr} {operation : Resolved → Op Nat} {s t : State}
    (h : execute i operation s = .next t) (ho : ∀ r, OnlyCoreChanges (operation r)) : CoreChanges s t := by
  obtain ⟨op, r, s1, adj, u, -, hr, hrun, rfl⟩ := execute_next_inv h
  have resolved : CoreChanges s s1 := resolve i.operand hr
  have counted : CoreChanges u { u with countdown := cost u.params op r.extra adj } :=
    loadCountdown op r.extra adj rfl
  exact resolved.trans ((ho r hrun).trans counted)

/-- Every instruction makes only primitive changes, because its operation does. -/
theorem of_exec {i : Instr} {s t : State} (h : exec i s = .next t) : CoreChanges s t := by
  cases i with
  | lda _ => exact of_execute h fun r => plain (load setA r.byte)
  | ldx _ => exact of_execute h fun r => plain (load setX r.byte)
  | ldy _ => exact of_execute h fun r => plain (load setY r.byte)
  | sta _ | stx _ | sty _ | stz _ => exact of_execute h fun r => storeValue r _
  | tax | tsx =>
    dsimp only [exec, execTax, execTsx] at h
    exact of_execute h fun _ => transfer _ setX
  | tay =>
    dsimp only [exec, execTay] at h
    exact of_execute h fun _ => transfer _ setY
  | txa | tya =>
    dsimp only [exec, execTxa, execTya] at h
    exact of_execute h fun _ => transfer _ setA
  | txs =>
    dsimp only [exec, execTxs] at h
    exact of_execute h fun _ => plain (getState.bind fun _ => setS _)
  | pha | php | phx | phy =>
    dsimp only [exec, execPha, execPhp, execPhx, execPhy] at h
    exact of_execute h fun _ => pushValue _
  | pla =>
    dsimp only [exec, execPla] at h
    exact of_execute h fun _ => pullValue setA
  | plx =>
    dsimp only [exec, execPlx] at h
    exact of_execute h fun _ => pullValue setX
  | ply =>
    dsimp only [exec, execPly] at h
    exact of_execute h fun _ => pullValue setY
  | plp =>
    dsimp only [exec, execPlp] at h
    exact of_execute h fun _ => plain (pull.bind fun _ => updateP _)
  | adc _ | sbc _ => exact of_execute h fun r => intoA r _
  | cmp _ | cpx _ | cpy _ => exact of_execute h fun r => compareWith r _
  | inc _ | dec _ => exact of_execute h fun r => stepInPlace r _
  | inx | dex =>
    dsimp only [exec, execInx, execDex] at h
    exact of_execute h fun _ => stepRegister _ setX
  | iny | dey =>
    dsimp only [exec, execIny, execDey] at h
    exact of_execute h fun _ => stepRegister _ setY
  | and _ | ora _ | eor _ => exact of_execute h fun r => logicA r _
  | bit _ => exact of_execute h fun _ => plain (getState.bind fun _ => updateP _)
  | trb _ | tsb _ => exact of_execute h fun r => testAndWrite r _
  | rmb0 _ | rmb1 _ | rmb2 _ | rmb3 _ | rmb4 _ | rmb5 _ | rmb6 _ | rmb7 _ =>
    dsimp only [exec, execRmb0, execRmb1, execRmb2, execRmb3, execRmb4, execRmb5, execRmb6, execRmb7] at h
    exact of_execute h fun r => resetBit r _
  | smb0 _ | smb1 _ | smb2 _ | smb3 _ | smb4 _ | smb5 _ | smb6 _ | smb7 _ =>
    dsimp only [exec, execSmb0, execSmb1, execSmb2, execSmb3, execSmb4, execSmb5, execSmb6, execSmb7] at h
    exact of_execute h fun r => setBit r _
  | asl _ | lsr _ | rol _ | ror _ => exact of_execute h fun r => shiftInPlace r _
  | bpl _ | bmi _ | bvc _ | bvs _ | bcc _ | bcs _ | bne _ | beq _ | bra _ =>
    dsimp only [exec, execBpl, execBmi, execBvc, execBvs, execBcc, execBcs, execBne, execBeq, execBra] at h
    exact of_execute h fun r => branchOnFlag r _
  | bbr0 _ _ | bbr1 _ _ | bbr2 _ _ | bbr3 _ _ | bbr4 _ _ | bbr5 _ _ | bbr6 _ _ | bbr7 _ _
  | bbs0 _ _ | bbs1 _ _ | bbs2 _ _ | bbs3 _ _ | bbs4 _ _ | bbs5 _ _ | bbs6 _ _ | bbs7 _ _ =>
    dsimp only [exec, execBbr0, execBbr1, execBbr2, execBbr3, execBbr4, execBbr5, execBbr6,
      execBbr7, execBbs0, execBbs1, execBbs2, execBbs3, execBbs4, execBbs5, execBbs6, execBbs7] at h
    exact of_execute h fun r => branchOnBit r _ _
  | jmp _ => exact of_execute h fun r => plain (jumpTo r.loc)
  | jsr _ =>
    dsimp only [exec, execJsr] at h
    exact of_execute h fun r =>
      plain (getState.bind fun _ => (push _).bind fun _ => (push _).bind fun _ => jumpTo r.loc)
  | rts =>
    dsimp only [exec, execRts] at h
    exact of_execute h fun _ => plain (pull.bind fun _ => pull.bind fun _ => setPC _)
  | clc | cld | cli | clv | sec | sed | sei =>
    dsimp only [exec, execClc, execCld, execCli, execClv, execSec, execSed, execSei] at h
    exact of_execute h fun _ => plain (updateP _)
  | nop =>
    dsimp only [exec, execNop] at h
    exact of_execute h fun _ => .pure 0
  | undef _ _ => exact of_execute h fun _ => plain (getState.bind fun _ => recordUnsupported _ _)
  | brk =>
    dsimp only [exec, execBrk] at h
    exact of_execute h fun _ => plain (getState.bind fun _ => (setPC _).bind fun _ => enterException _ _)
  | rti =>
    dsimp only [exec, execRti] at h
    exact of_execute h fun _ => plain returnFromException
  | wai | stp =>
    dsimp only [exec, execWai, execStp] at h
    exact of_execute h fun _ => plain (update (fun _ => ⟨rfl, rfl, rfl, rfl⟩) fun _ => rfl)

end OnlyCoreChanges

/-! ## The calls of a run -/

/-- A call that only a running core accepts answers a next state only there. -/
theorem whenRunning_next {σ : Type} {call : State → Host.Outcome σ Fault Refusal} {s : State} {x : σ}
    (h : whenRunning call s = .next x) : s.phase = .running ∧ call s = .next x := by
  unfold whenRunning at h
  cases hp : s.phase with
  | running => rw [hp] at h; exact ⟨rfl, h⟩
  | constructed | faulted | notOperational => rw [hp] at h; cases h

theorem outcomeOf_coreChanges {x : Op Unit} {s t : State} (hx : OnlyCoreChanges x) (h : outcomeOf x s = .next t) :
    CoreChanges s t := by
  unfold outcomeOf at h
  split at h
  · next hok => cases h; exact hx hok
  · cases h

theorem stepInstruction_coreChanges {s t : State} (h : stepInstruction s = .next t) : CoreChanges s t := by
  unfold stepInstruction at h
  split at h
  · next hfetch => exact (OnlyCoreChanges.fetchInstruction hfetch).trans (OnlyCoreChanges.of_exec h)
  · cases h

theorem returning_next {b : Bool} {x : Host.Outcome State Fault Refusal} {y : State × Bool}
    (h : returning b x = .next y) : x = .next y.1 := by
  cases x with
  | next s => cases h; rfl
  | fault _ | refused _ => cases h

theorem clockRunning_coreChanges {s : State} {x : State × Bool} (h : clockRunning s = .next x) :
    CoreChanges s x.1 := by
  unfold clockRunning at h
  split at h
  · cases h; exact .outsideMemory ⟨rfl, rfl, rfl, rfl⟩ rfl
  · split at h
    · cases h; exact .refl
    · exact stepInstruction_coreChanges (returning_next h)

theorem clockStep_next {s t : State} (h : clockStep s = .next t) : ∃ b, clock s = .next (t, b) := by
  unfold clockStep at h
  split at h
  · next b hc => cases h; exact ⟨b, hc⟩
  · cases h
  · cases h

theorem clockStep_coreChanges {s t : State} (h : clockStep s = .next t) : s.phase = .running ∧ CoreChanges s t := by
  obtain ⟨b, hc⟩ := clockStep_next h
  obtain ⟨hp, hrun⟩ := whenRunning_next hc
  exact ⟨hp, clockRunning_coreChanges hrun⟩

/-- An interrupt that is taken ends the wait and enters its handler (60_exceptions.md R1212). -/
theorem interrupt_coreChanges {vector : Word} {s t : State}
    (h : outcomeOf (enterInterrupt vector) { s with waiting := false } = .next t) : CoreChanges s t := by
  have woken : CoreChanges s { s with waiting := false } := .outsideMemory ⟨rfl, rfl, rfl, rfl⟩ rfl
  exact woken.trans (outcomeOf_coreChanges (.enterInterrupt vector) h)

theorem irq_coreChanges {s t : State} (h : irq s = .next t) : s.phase = .running ∧ CoreChanges s t := by
  obtain ⟨hp, hrun⟩ := whenRunning_next h
  refine ⟨hp, ?_⟩
  unfold irqRunning at hrun
  split at hrun
  · cases hrun; exact .refl
  · split at hrun
    · cases hrun; exact .outsideMemory ⟨rfl, rfl, rfl, rfl⟩ rfl
    · exact interrupt_coreChanges hrun

theorem nmi_coreChanges {s t : State} (h : nmi s = .next t) : s.phase = .running ∧ CoreChanges s t := by
  obtain ⟨hp, hrun⟩ := whenRunning_next h
  refine ⟨hp, ?_⟩
  unfold nmiRunning at hrun
  split at hrun
  · cases hrun; exact .refl
  · exact interrupt_coreChanges hrun

/-- The bus forwards a call to an attached core, and with none attached it does nothing (R1214, log entry 19). -/
theorem forward_next {call : State → Host.Outcome State Fault Refusal} {s t : State} (h : forward call s = .next t) :
    call s = .next t ∨ t = s ∧ (s.phase = .constructed ∨ s.phase = .running) := by
  unfold forward at h
  split at h
  · exact .inl h
  · right
    cases hp : s.phase with
    | constructed | running => rw [hp] at h; cases h; simp
    | faulted | notOperational => rw [hp] at h; cases h

/-- A forwarded call is the core's call of a run, or it does nothing before the first `reset()`. -/
theorem forward_coreChanges {call : State → Host.Outcome State Fault Refusal} {s t : State}
    (hcall : call s = .next t → s.phase = .running ∧ CoreChanges s t) (h : forward call s = .next t) :
    (s.phase = .running ∧ CoreChanges s t) ∨ (s.phase = .constructed ∧ t = s) := by
  rcases forward_next h with hc | ⟨rfl, hp | hp⟩
  · exact .inl (hcall hc)
  · exact .inr ⟨hp, rfl⟩
  · exact .inl ⟨hp, .refl⟩

theorem startListing_coreChanges {n : Int} {s t : State} (h : startListing n s = .next t) :
    s.phase = .running ∧ CoreChanges s t := by
  obtain ⟨hp, hrun⟩ := whenRunning_next h
  cases hrun
  exact ⟨hp, .outsideMemory ⟨rfl, rfl, rfl, rfl⟩ rfl⟩

/-- A call on a listing changes the listings and what the call itself changes. -/
theorem onListing_coreChanges {k : Nat} {f : Listing → State → Listing × State} {s t : State}
    (hf : ∀ l, sameButDevices s (f l s).2) (h : onListing k f s = .next t) : s.phase = .running ∧ CoreChanges s t := by
  obtain ⟨hp, hrun⟩ := whenRunning_next h
  refine ⟨hp, ?_⟩
  cases hl : s.listings[k]? with
  | none => rw [hl] at hrun; cases hrun
  | some l =>
    rw [hl] at hrun
    cases hrun
    exact (CoreChanges.of_sameButDevices (hf l)).trans (CoreChanges.outsideMemory ⟨rfl, rfl, rfl, rfl⟩ rfl)

/-! ## `reset()` and the setup calls -/

/-- A `reset()` that completes has read the reset vector and written the registers (R1310). -/
theorem resetCall_next {s t : State} (h : resetCall s = .next t) :
    ∃ target u, read16 vectorReset s = .ok target u ∧ t = resetRegisters target u := by
  unfold resetCall at h
  split at h
  · cases h
  all_goals
    split at h
    · next target u hr => cases h; exact ⟨target, u, hr, rfl⟩
    · cases h

/-- A setup call answers a next state only before the first `reset()` (R203). -/
theorem whenConstructed_next {call : State → Host.Outcome State Fault Refusal} {s t : State}
    (h : whenConstructed call s = .next t) : s.phase = .constructed ∧ call s = .next t := by
  unfold whenConstructed at h
  cases hp : s.phase with
  | constructed => rw [hp] at h; exact ⟨rfl, h⟩
  | running | faulted | notOperational => rw [hp] at h; cases h

/-- A registration that completes has added a device that fits and overlaps none (R202, R203). -/
theorem registerDevice_next {d : Device} {s t : State} (h : registerDevice d s = .next t) :
    s.phase = .constructed ∧ d.fits = true ∧ s.devices.any d.overlaps = false ∧
      t = { s with devices := s.devices ++ [d] } := by
  obtain ⟨hp, h⟩ := whenConstructed_next h
  split at h
  · cases h
  · next hfits =>
    split at h
    · cases h
    · next hover => cases h; exact ⟨hp, by simpa using hfits, by simpa using hover, rfl⟩

/-- A program load that completes has filled bytes of a RAM or ROM device (R212). -/
theorem loadProgram_next {n offset : Nat} {bytes : List Byte} {s t : State}
    (h : loadProgram n offset bytes s = .next t) :
    s.phase = .constructed ∧ ∃ d, s.devices[n]? = some d ∧ (d.kind = .ram ∨ d.kind = .rom) ∧
      d.holds offset bytes.length = true ∧
      t = { s with mem := Memory.writeAll s.params.ramInit s.mem (d.cell offset) bytes } := by
  obtain ⟨hp, h⟩ := whenConstructed_next h
  refine ⟨hp, ?_⟩
  cases hd : s.devices[n]? with
  | none => rw [hd] at h; cases h
  | some d =>
    rw [hd] at h
    cases hk : d.kind with
    | external _ => simp only [hk] at h; cases h
    | ram | rom =>
      simp only [hk] at h
      split at h
      · next hholds => cases h; exact ⟨d, rfl, by simp [hk], hholds, rfl⟩
      · cases h

/-- An attachment that completes has changed nothing else (R208, R1312). -/
theorem attachCore_next {s t : State} (h : attachCore s = .next t) :
    s.phase = .constructed ∧ t = { s with attached := true } := by
  obtain ⟨hp, h⟩ := whenConstructed_next h
  cases h
  exact ⟨hp, rfl⟩

/-! ## Every call -/

/-- Everything a host call that completes can be: a call of a run, a `reset()`, or a setup call. -/
theorem perform_cases {c : HostCall} {s t : State} (h : perform c s = .next t) :
    (s.phase = .running ∧ CoreChanges s t) ∨
      (∃ target u, sameButDevices s u ∧ t = resetRegisters target u) ∨
      (s.phase = .constructed ∧ t = { s with devices := t.devices, attached := t.attached, mem := t.mem }) := by
  cases c with
  | reset =>
    obtain ⟨target, u, hr, rfl⟩ := resetCall_next h
    exact .inr (.inl ⟨target, u, read16_frame hr, rfl⟩)
  | clock => exact .inl (clockStep_coreChanges h)
  | irq => exact .inl (irq_coreChanges h)
  | nmi => exact .inl (nmi_coreChanges h)
  | busIrq =>
    exact (forward_coreChanges irq_coreChanges h).imp_right fun ⟨hp, same⟩ => .inr ⟨hp, by rw [same]⟩
  | busNmi =>
    exact (forward_coreChanges nmi_coreChanges h).imp_right fun ⟨hp, same⟩ => .inr ⟨hp, by rw [same]⟩
  | register d =>
    obtain ⟨hp, -, -, rfl⟩ := registerDevice_next h
    exact .inr (.inr ⟨hp, rfl⟩)
  | load n offset bytes =>
    obtain ⟨hp, d, -, -, -, rfl⟩ := loadProgram_next h
    exact .inr (.inr ⟨hp, rfl⟩)
  | attach =>
    obtain ⟨hp, rfl⟩ := attachCore_next h
    exact .inr (.inr ⟨hp, rfl⟩)
  | listCommands n => exact .inl (startListing_coreChanges h)
  | listNext k => exact .inl (onListing_coreChanges (fun l => pull_sameButDevices l s) h)
  | listRestart k => exact .inl (onListing_coreChanges (f := fun l s => (l.restarted, s)) (fun _ => rfl) h)

/-- A step performs one host call, on the state with other calls left to make. -/
theorem step_eq_perform (s : State) : ∃ c calls, step s = perform c { s with hostCalls := calls } := by
  unfold step
  split
  · exact ⟨.clock, s.hostCalls, rfl⟩
  · next c rest _ => exact ⟨c, rest, rfl⟩

/-- A host call keeps the configuration as far as the phase it is made in says (R3, R135, R203). -/
theorem perform_keeps_configuration {c : HostCall} {s t : State} (h : perform c s = .next t) :
    t.params = s.params ∧ (s.phase ≠ .constructed →
      t.devices = s.devices ∧ t.attached = s.attached ∧ (t.phase = .running ∨ t.phase = s.phase)) := by
  rcases perform_cases h with ⟨-, hrun⟩ | ⟨target, u, hread, rfl⟩ | ⟨hp, hsetup⟩
  · have same := hrun.sameConfig
    exact ⟨same.params, fun _ => ⟨same.devices, same.attached, .inr same.phase⟩⟩
  · have same := (CoreChanges.of_sameButDevices hread).sameConfig
    exact ⟨same.params, fun _ => ⟨same.devices, same.attached, .inl rfl⟩⟩
  · exact ⟨by rw [hsetup], fun hnot => absurd hp hnot⟩

/-- Settles O54: every host call keeps the configuration, by the three things a call that completes can be. -/
theorem configurationIsConstant : Obligations.ConfigurationIsConstant := by
  intro s t h
  obtain ⟨c, calls, hstep⟩ := step_eq_perform s
  rw [hstep] at h
  have kept := perform_keeps_configuration h
  exact kept

end Sys2Proof.Machine
end

section
/-!
PROOFS. A ROM's bytes are fixed (20_memory.md R211). The bus reads them and refuses to write them, and a primitive change
of a running core stores a byte in a RAM only, so no chain of them reaches a ROM; a `reset()` leaves the memory alone, and
a program load is no call of a run.
-/

namespace Sys2Proof.Machine

/-! ## What a ROM at an address says of it -/

theorem romAt_owner {s : State} {a : Word} (h : romAt s a = true) :
    ∃ d, ownerOf s.devices a.toNat = some d ∧ d.kind = .rom := by
  unfold romAt at h
  split at h
  · next d hd => exact ⟨d, hd, of_decide_eq_true h⟩
  · cases h

theorem romAt_holdsBytes {s : State} {a : Word} (h : romAt s a = true) : holdsBytes s.devices a = true := by
  obtain ⟨d, hd, hk⟩ := romAt_owner h
  simp [holdsBytes, hd, hk]

theorem romAt_readOnlyAt {s : State} {a : Word} (h : romAt s a = true) : readOnlyAt s a = true := by
  obtain ⟨d, hd, hk⟩ := romAt_owner h
  simp [readOnlyAt, hd, hk]

theorem romAt_not_ramAt {s : State} {a : Word} (h : romAt s a = true) : ramAt s a = false := by
  obtain ⟨d, hd, hk⟩ := romAt_owner h
  simp [ramAt, hd, hk]

/-! ## What keeps a ROM's byte -/

/-- A primitive change keeps a ROM's byte: the RAM byte it may store lies at another address. -/
theorem CoreChange.byteAt_rom {s t : State} {b : Word} (h : CoreChange s t) (hrom : romAt s b = true) :
    t.byteAt b = s.byteAt b := by
  cases h with
  | outsideMemory config mem => exact byteAt_congr config.params mem b
  | @ramWrite a v hram =>
    have other : b ≠ a := by
      rintro rfl
      rw [romAt_not_ramAt hrom] at hram
      cases hram
    exact read_write_ne fun same => other (BitVec.eq_of_toNat_eq same)

/-- A chain of primitive changes keeps a ROM's byte, for it keeps the device map that makes it a ROM's. -/
theorem CoreChanges.byteAt_rom {s t : State} {a : Word} (h : CoreChanges s t) (hrom : romAt s a = true) :
    t.byteAt a = s.byteAt a := by
  induction h with
  | refl => rfl
  | tail before change ih =>
    have still := (romAt_congr (CoreChanges.sameConfig before).devices a).trans hrom
    exact (change.byteAt_rom still).trans ih

/-- A `reset()` that has read the vector writes registers only (R1310). -/
theorem byteAt_resetRegisters (target : Word) {s u : State} (h : sameButDevices s u) (a : Word) :
    (resetRegisters target u).byteAt a = s.byteAt a :=
  byteAt_congr (congrArg State.params h) (congrArg State.mem h) a

/-- No host call of a running core changes a ROM's byte. -/
theorem perform_byteAt_rom {c : HostCall} {s t : State} {a : Word} (h : perform c s = .next t)
    (hp : s.phase = .running) (hrom : romAt s a = true) : t.byteAt a = s.byteAt a := by
  rcases perform_cases h with ⟨-, hrun⟩ | ⟨target, u, hread, rfl⟩ | ⟨hsetup, -⟩
  · exact hrun.byteAt_rom hrom
  · exact byteAt_resetRegisters target hread a
  · rw [hp] at hsetup
    cases hsetup

/-- Settles O53: the bus answers a ROM's byte and refuses to write it, and every host call of a run keeps it. -/
theorem romNeverChanges : Obligations.RomNeverChanges := by
  intro s t a v hrom
  refine ⟨busRead_holds (romAt_holdsBytes hrom), busWrite_readOnly (romAt_readOnlyAt hrom), fun hp h => ?_⟩
  obtain ⟨c, calls, hstep⟩ := step_eq_perform s
  rw [hstep] at h
  exact perform_byteAt_rom (s := { s with hostCalls := calls }) h hp hrom

end Sys2Proof.Machine
end

section
/-!
PROOFS. The register transfers (42_transfer_stack.md R601 to R606). An instruction of the implied mode has no operand to
resolve and pays no penalty, so its operation alone says what it does (`execute_implied`).
-/

namespace Sys2Proof.Machine

/-- The flag update of the model is the `setNZ` of the statements (00_scope.md R13). -/
theorem setNZ_setsNZ (v p : Byte) : setsNZ v p (setNZ v p) :=
  ⟨flagN_setNZ v p, flagZ_setNZ v p, setNZ_keeps v p⟩

/-- An instruction of the implied mode does what its operation does, for its base cycles (R320, R1304). -/
theorem execute_implied {i : Instr} {op : Byte} {operation : Resolved → Op Nat} {s t : State}
    (hop : i.opcode? = some op) (himp : i.operand = .imp)
    (ho : operation ⟨.none, none, false, none⟩ s = .ok 0 t) :
    execute i operation s = .next { t with countdown := baseCycles t.params op } := by
  have hr : resolve i.operand s = .ok ⟨.none, none, false, none⟩ s := by rw [himp]; rfl
  exact execute_next hop hr ho

/-- A transfer sets N and Z from the value moved, in the state `t` its register write leaves. -/
theorem transfer_apply {source : State → Byte} {put : Byte → Op Unit} {s t : State}
    (hput : put (source s) s = .ok () t) :
    transfer source put s = .ok 0 { t with P := setNZ (source s) t.P } := by
  simp [transfer, hput]

/-- A transfer instruction changes what its register write changes (to `t`), N, Z and the countdown. -/
theorem exec_transfer (t : State) {i : Instr} {op : Byte} {source : State → Byte} {put : Byte → Op Unit} {s : State}
    (hexec : exec i s = execute i (fun _ => transfer source put) s) (hop : i.opcode? = some op)
    (himp : i.operand = .imp) (hput : put (source s) s = .ok () t) (hP : t.P = s.P) :
    ∃ p, setsNZ (source s) s.P p ∧ exec i s = .next { t with P := p, countdown := baseCycles t.params op } := by
  refine ⟨_, setNZ_setsNZ (source s) s.P, ?_⟩
  rw [hexec, ← hP]
  exact execute_implied (operation := fun _ => transfer source put) hop himp (transfer_apply hput)

/-- TXS writes no flag (R605). -/
theorem exec_txs (s : State) : exec .txs s = .next { s with S := s.X, countdown := baseCycles s.params 0x9A } :=
  execute_implied (i := .txs) (t := { s with S := s.X }) rfl rfl
    (operation := fun _ => plain do let s ← getState; setS s.X) rfl

/-- Settles O13: five instructions are `transfer` on their own pair of registers, TXS is a plain register write, and the
bytes and the cycles are read off the table. -/
theorem transfersMoveRegisters : Obligations.TransfersMoveRegisters := by
  refine ⟨fun s => ⟨?tax, ?tay, ?tsx, ?txa, exec_txs s, ?tya⟩, rfl, by decide⟩
  case tax => exact exec_transfer { s with X := s.A } rfl rfl rfl (setX_apply s.A s) rfl
  case tay => exact exec_transfer { s with Y := s.A } rfl rfl rfl (setY_apply s.A s) rfl
  case tsx => exact exec_transfer { s with X := s.S } rfl rfl rfl (setX_apply s.S s) rfl
  case txa => exact exec_transfer { s with A := s.X } rfl rfl rfl (setA_apply s.X s) rfl
  case tya => exact exec_transfer { s with A := s.Y } rfl rfl rfl (setA_apply s.Y s) rfl

end Sys2Proof.Machine
end

section
/-!
PROOFS. The steps of the index registers (43_arithmetic.md R717 to R720). A step is a transfer whose source is the
register's own changed value, so `exec_transfer` says what it does; what is left is that value as a number.
-/

namespace Sys2Proof.Machine

theorem byte_toNat_add_one (x : Byte) : (x + 1).toNat = (x.toNat + 1) % 256 := BitVec.toNat_add x 1

/-- One less modulo 256 is 255 more (`u8`, 00_scope.md R10). -/
theorem byte_toNat_sub_one (x : Byte) : (x - 1).toNat = (x.toNat + 255) % 256 := by
  rw [Nat.add_comm]
  exact BitVec.toNat_sub x 1

theorem stepRegister_eq_transfer (value : State → Byte) (put : Byte → Op Unit) :
    stepRegister value put = transfer value put := rfl

/-- An instruction that steps a register changes what its register write changes (to `t`), N, Z and the countdown; `n` is
the value written, as a number. -/
theorem exec_stepRegister (value : State → Byte) (put : Byte → Op Unit) {s : State} (t : State) {n : Nat} {i : Instr}
    {op : Byte} (hn : (value s).toNat = n) (hexec : exec i s = execute i (fun _ => stepRegister value put) s)
    (hop : i.opcode? = some op) (himp : i.operand = .imp) (hput : put (value s) s = .ok () t) (hP : t.P = s.P) :
    ∃ p, (value s).toNat = n ∧ setsNZ (value s) s.P p ∧
      exec i s = .next { t with P := p, countdown := baseCycles t.params op } := by
  rw [stepRegister_eq_transfer] at hexec
  obtain ⟨p, hp, hnext⟩ := exec_transfer t hexec hop himp hput hP
  exact ⟨p, hn, hp, hnext⟩

/-- Settles O23: each of the four is `stepRegister` on its own register, and the bytes and the cycles are read off the
table. -/
theorem indexRegistersStep : Obligations.IndexRegistersStep := by
  refine ⟨fun s => ⟨⟨s.X + 1, ?inx⟩, ⟨s.Y + 1, ?iny⟩, ⟨s.X - 1, ?dex⟩, ⟨s.Y - 1, ?dey⟩⟩, rfl, by decide⟩
  case inx =>
    exact exec_stepRegister (·.X + 1) setX { s with X := s.X + 1 } (byte_toNat_add_one s.X) rfl rfl rfl rfl rfl
  case iny =>
    exact exec_stepRegister (·.Y + 1) setY { s with Y := s.Y + 1 } (byte_toNat_add_one s.Y) rfl rfl rfl rfl rfl
  case dex =>
    exact exec_stepRegister (·.X - 1) setX { s with X := s.X - 1 } (byte_toNat_sub_one s.X) rfl rfl rfl rfl rfl
  case dey =>
    exact exec_stepRegister (·.Y - 1) setY { s with Y := s.Y - 1 } (byte_toNat_sub_one s.Y) rfl rfl rfl rfl rfl

end Sys2Proof.Machine
end

section
/-!
PROOFS. The flag instructions, NOP, WAI and STP (47_flags_system.md R1101 to R1108, R1112, R1113). Each is of the implied
mode and writes the state by one update (`exec_update`); the flag instructions write the bits of one mask of P.
-/

namespace Sys2Proof.Machine

/-- An instruction of the implied mode that is one update of the state makes that update, for its base cycles. -/
theorem exec_update (f : State → State) {i : Instr} {op : Byte} {s : State}
    (hexec : exec i s = execute i (fun _ => plain (update f)) s) (hop : i.opcode? = some op)
    (himp : i.operand = .imp) : exec i s = .next { f s with countdown := baseCycles (f s).params op } := by
  rw [hexec]
  exact execute_implied (operation := fun _ => plain (update f)) hop himp
    (by simp only [plain_apply, update_apply])

/-- An instruction that clears the bits of `mask` keeps the other bits of P, those of `keep` (R114). -/
theorem exec_clearFlag (mask : Byte) {keep : Byte} {i : Instr} {op : Byte} {s : State} (hkeep : ~~~mask = keep)
    (hexec : exec i s = execute i (fun _ => plain (updateP (putFlag mask false))) s) (hop : i.opcode? = some op)
    (himp : i.operand = .imp) :
    exec i s = .next { s with P := s.P &&& keep, countdown := baseCycles s.params op } := by
  subst hkeep
  exact exec_update (fun s => { s with P := putFlag mask false s.P }) hexec hop himp

/-- An instruction that sets the bits of `mask` keeps the other bits of P (R114). -/
theorem exec_setFlag (mask : Byte) {i : Instr} {op : Byte} {s : State}
    (hexec : exec i s = execute i (fun _ => plain (updateP (putFlag mask true))) s) (hop : i.opcode? = some op)
    (himp : i.operand = .imp) :
    exec i s = .next { s with P := s.P ||| mask, countdown := baseCycles s.params op } :=
  exec_update (fun s => { s with P := putFlag mask true s.P }) hexec hop himp

/-- Settles O36: four of the seven clear and three set the bits of their own mask, and the bytes and the cycles are read
off the table. -/
theorem flagInstructionsWriteOneBit : Obligations.FlagInstructionsWriteOneBit := by
  refine ⟨fun s => ⟨?clc, ?cld, ?cli, ?clv, ?sec, ?sed, ?sei⟩, rfl, by decide⟩
  case clc => exact exec_clearFlag maskC (by decide) rfl rfl rfl
  case cld => exact exec_clearFlag maskD (by decide) rfl rfl rfl
  case cli => exact exec_clearFlag maskI (by decide) rfl rfl rfl
  case clv => exact exec_clearFlag maskV (by decide) rfl rfl rfl
  case sec => exact exec_setFlag maskC rfl rfl rfl
  case sed => exact exec_setFlag maskD rfl rfl rfl
  case sei => exact exec_setFlag maskI rfl rfl rfl

/-- Settles O37: NOP is the operation that does nothing, WAI and STP are one update each, and the bytes and the cycles
are read off the table. -/
theorem nopWaiAndStp : Obligations.NopWaiAndStp := by
  refine ⟨fun s => ⟨?nop, ?wai, ?stp⟩, rfl, by decide⟩
  case nop => exact execute_implied (i := .nop) (operation := fun _ => pure 0) rfl rfl (pure_apply 0 s)
  case wai => exact exec_update (fun s => { s with waiting := true }) rfl rfl rfl
  case stp => exact exec_update (fun s => { s with stopped := true }) rfl rfl rfl

end Sys2Proof.Machine
end

section
/-!
PROOFS. The decoder and the encoder (30_encoding.md R300 to R312). An instruction is determined by its opcode byte and its
operand: `instrOf` has both (`instrOf_opcode?`, `instrOf_operand`), and no other well-formed term has them
(`instrOf_of_opcode`). What is left is that the operand bytes come back (`assemble_bytes`, `bytes_assemble`).
-/

namespace Sys2Proof

/-! ## Words and their bytes (00_scope.md R10) -/

@[simp] theorem lo_word (h l : Byte) : lo (word h l) = l := by
  simp only [lo, word]
  exact BitVec.extractLsb'_append_eq_right

@[simp] theorem hi_word (h l : Byte) : hi (word h l) = h := by
  simp only [hi, word]
  exact BitVec.extractLsb'_append_eq_left

theorem lo_toNat (w : Word) : (lo w).toNat = w.toNat % 256 := by
  simp [lo]

theorem hi_toNat (w : Word) : (hi w).toNat = w.toNat / 256 := by
  have := w.isLt
  simp only [hi, BitVec.extractLsb'_toNat, Nat.shiftRight_eq_div_pow]
  omega

theorem word_toNat (h l : Byte) : (word h l).toNat = h.toNat * 256 + l.toNat := by
  have := l.isLt
  rw [word, BitVec.toNat_append, ← Nat.shiftLeft_add_eq_or_of_lt this, Nat.shiftLeft_eq]

@[simp] theorem word_hi_lo (w : Word) : word (hi w) (lo w) = w := by
  apply BitVec.eq_of_toNat_eq
  rw [word_toNat, hi_toNat, lo_toNat]
  omega

/-! ## The row of an opcode byte -/

/-- Each instruction's own rule agrees with the dispatch table. -/
theorem opcodeRow : ∀ i : Instr, Laws.OpcodeRow.Statement i := by
  intro i
  cases i with
  | lda o => exact Laws.OpcodeRow.lda o
  | ldx o => exact Laws.OpcodeRow.ldx o
  | ldy o => exact Laws.OpcodeRow.ldy o
  | sta o => exact Laws.OpcodeRow.sta o
  | stx o => exact Laws.OpcodeRow.stx o
  | sty o => exact Laws.OpcodeRow.sty o
  | stz o => exact Laws.OpcodeRow.stz o
  | adc o => exact Laws.OpcodeRow.adc o
  | sbc o => exact Laws.OpcodeRow.sbc o
  | cmp o => exact Laws.OpcodeRow.cmp o
  | cpx o => exact Laws.OpcodeRow.cpx o
  | cpy o => exact Laws.OpcodeRow.cpy o
  | inc o => exact Laws.OpcodeRow.inc o
  | dec o => exact Laws.OpcodeRow.dec o
  | and o => exact Laws.OpcodeRow.and o
  | ora o => exact Laws.OpcodeRow.ora o
  | eor o => exact Laws.OpcodeRow.eor o
  | bit o => exact Laws.OpcodeRow.bit o
  | trb o => exact Laws.OpcodeRow.trb o
  | tsb o => exact Laws.OpcodeRow.tsb o
  | asl o => exact Laws.OpcodeRow.asl o
  | lsr o => exact Laws.OpcodeRow.lsr o
  | rol o => exact Laws.OpcodeRow.rol o
  | ror o => exact Laws.OpcodeRow.ror o
  | jmp o => exact Laws.OpcodeRow.jmp o
  | undef op o => exact Laws.OpcodeRow.undef op o
  | _ => exact ⟨rfl, rfl, rfl⟩

/-- The row of an instruction's opcode byte has its operation and its mode (R310, R311). -/
theorem opcode_row {i : Instr} {op : Byte} (h : i.opcode? = some op) :
    (tableEntry op).operation = i.operation ∧ (tableEntry op).mode = i.operand.mode := by
  obtain ⟨-, hrow⟩ := opcodeRow i
  rw [h] at hrow
  exact hrow

/-- A term with an opcode byte is an instruction. -/
theorem wf_of_opcode {i : Instr} {op : Byte} (h : i.opcode? = some op) : i.wf = true := by
  rw [(opcodeRow i).1, h]
  rfl

/-- An instruction has an opcode byte. -/
theorem opcode_of_wf {i : Instr} (h : i.wf = true) : ∃ op, i.opcode? = some op := by
  rw [(opcodeRow i).1] at h
  exact Option.isSome_iff_exists.1 h

/-- A term that is no instruction has no opcode byte. -/
theorem opcode_of_not_wf {i : Instr} (h : i.wf = false) : i.opcode? = none := by
  rw [(opcodeRow i).1] at h
  simpa using h

theorem encode_of_opcode {i : Instr} {op : Byte} (h : i.opcode? = some op) : encode i = op :: i.operand.bytes := by
  simp only [encode, h]

/-! ## Operands and their bytes (R304) -/

/-- Byte 1 of an instruction with this operand; 0 where there is none. -/
def Operand.byte1 : Operand → Byte
  | .imm b | .zp b | .zpx b | .zpy b | .indx b | .indy b | .zpind b | .rel b | .zprel b _ => b
  | .abs w | .absx w | .absy w | .ind w | .absindx w => lo w
  | .imp | .acc | .stack => 0

/-- Byte 2 of an instruction with this operand; 0 where there is none. -/
def Operand.byte2 : Operand → Byte
  | .abs w | .absx w | .absy w | .ind w | .absindx w => hi w
  | .zprel _ d => d
  | .imm _ | .zp _ | .zpx _ | .zpy _ | .indx _ | .indy _ | .zpind _ | .rel _ | .imp | .acc | .stack => 0

theorem assemble_bytes (o : Operand) : assemble o.mode o.byte1 o.byte2 = o := by
  cases o <;> simp [Operand.mode, Operand.byte1, Operand.byte2, assemble]

@[simp] theorem assemble_mode (m : Mode) (b1 b2 : Byte) : (assemble m b1 b2).mode = m := by
  cases m <;> rfl

theorem bytes_assemble (m : Mode) (b1 b2 : Byte) : (assemble m b1 b2).bytes = [b1, b2].take (operandBytes m) := by
  cases m <;> simp [assemble, Operand.bytes, operandBytes]

theorem operandBytes_le (m : Mode) : operandBytes m ≤ 2 := by
  cases m <;> decide

section
variable {op b1 b2 : Byte} {rest : List Byte}

theorem decode_zero (h : operandBytes (tableEntry op).mode = 0) : decode (op :: rest) = .ok (instrOf op 0 0, rest) := by
  simp [decode, h]

theorem decode_one (h : operandBytes (tableEntry op).mode = 1) :
    decode (op :: b1 :: rest) = .ok (instrOf op b1 0, rest) := by
  simp [decode, h]

theorem decode_two (h : operandBytes (tableEntry op).mode = 2) :
    decode (op :: b1 :: b2 :: rest) = .ok (instrOf op b1 b2, rest) := by
  simp [decode, h]

end

/-- The decoder reads the operand's bytes and no other (R300, R301). -/
theorem decode_operand {op : Byte} {o : Operand} (h : (tableEntry op).mode = o.mode) (rest : List Byte) :
    decode (op :: o.bytes ++ rest) = .ok (instrOf op o.byte1 o.byte2, rest) := by
  cases o with
  | imp | acc | stack => exact decode_zero (by rw [h]; rfl)
  | imm _ | zp _ | zpx _ | zpy _ | indx _ | indy _ | zpind _ | rel _ => exact decode_one (by rw [h]; rfl)
  | abs _ | absx _ | absy _ | ind _ | absindx _ | zprel _ _ => exact decode_two (by rw [h]; rfl)

/-- What the decoder has read when it answers: an opcode byte and the bytes of its mode. -/
theorem decode_ok {bytes rest : List Byte} {i : Instr} (h : decode bytes = .ok (i, rest)) :
    ∃ op b1 b2, i = instrOf op b1 b2 ∧ bytes = op :: (assemble (tableEntry op).mode b1 b2).bytes ++ rest := by
  match bytes with
  | [] => cases h
  | op :: tail =>
    have hle := operandBytes_le (tableEntry op).mode
    simp only [bytes_assemble]
    match hn : operandBytes (tableEntry op).mode, tail with
    | 0, _ =>
      rw [decode_zero hn] at h
      cases h
      exact ⟨op, 0, 0, rfl, by rw [hn]; rfl⟩
    | 1, [] => simp [decode, hn] at h
    | 1, b1 :: _ =>
      rw [decode_one hn] at h
      cases h
      exact ⟨op, b1, 0, rfl, by rw [hn]; rfl⟩
    | 2, [] | 2, [_] => simp [decode, hn] at h
    | 2, b1 :: b2 :: _ =>
      rw [decode_two hn] at h
      cases h
      exact ⟨op, b1, b2, rfl, by rw [hn]; rfl⟩
    | n + 3, _ => omega

/-! ## The instruction of an opcode byte -/

section
variable (n : Nat) (z d : Byte)

theorem rmbInstr_shape : (rmbInstr n z).operand = .zp z ∧ (rmbInstr n z).opcode? = (rmbInstr n 0).opcode? := by
  unfold rmbInstr; split <;> exact ⟨rfl, rfl⟩

theorem smbInstr_shape : (smbInstr n z).operand = .zp z ∧ (smbInstr n z).opcode? = (smbInstr n 0).opcode? := by
  unfold smbInstr; split <;> exact ⟨rfl, rfl⟩

theorem bbrInstr_shape :
    (bbrInstr n z d).operand = .zprel z d ∧ (bbrInstr n z d).opcode? = (bbrInstr n 0 0).opcode? := by
  unfold bbrInstr; split <;> exact ⟨rfl, rfl⟩

theorem bbsInstr_shape :
    (bbsInstr n z d).operand = .zprel z d ∧ (bbsInstr n z d).opcode? = (bbsInstr n 0 0).opcode? := by
  unfold bbsInstr; split <;> exact ⟨rfl, rfl⟩

end

/-- The two transcriptions of the opcode map agree on every byte (R310 and files 41 to 47). -/
theorem instrOf_zero_opcode? : ∀ op : Byte, (instrOf op 0 0).opcode? = some op := by
  decide +kernel

/-- The operand bytes decide nothing of the opcode byte (R301). -/
theorem instrOf_opcode? (op b1 b2 : Byte) : (instrOf op b1 b2).opcode? = some op := by
  rw [← instrOf_zero_opcode? op]
  unfold instrOf
  generalize tableEntry op = e
  obtain ⟨operation, mode, cycles⟩ := e
  cases operation with
  | RMB => exact (rmbInstr_shape _ b1).2
  | SMB => exact (smbInstr_shape _ b1).2
  | BBR => exact (bbrInstr_shape _ b1 b2).2
  | BBS => exact (bbsInstr_shape _ b1 b2).2
  | _ => simp only [Instr.opcode?, assemble_mode]

theorem instrOf_operand (op b1 b2 : Byte) :
    (instrOf op b1 b2).operand = assemble (tableEntry op).mode b1 b2 := by
  rw [(opcode_row (instrOf_opcode? op b1 b2)).2]
  unfold instrOf
  generalize tableEntry op = e
  obtain ⟨operation, mode, cycles⟩ := e
  cases operation with
  | RMB => simp only [(rmbInstr_shape _ b1).1]; rfl
  | SMB => simp only [(smbInstr_shape _ b1).1]; rfl
  | BBR => simp only [(bbrInstr_shape _ b1 b2).1]; rfl
  | BBS => simp only [(bbsInstr_shape _ b1 b2).1]; rfl
  | JSR => simp only [Instr.operand]; rfl
  | _ => cases mode <;> rfl

/-- An instruction is the one the decoder makes of its opcode byte and its operand bytes. -/
theorem instrOf_of_opcode {i : Instr} {op : Byte} (hop : i.opcode? = some op) :
    instrOf op i.operand.byte1 i.operand.byte2 = i := by
  obtain ⟨hoperation, hmode⟩ := opcode_row hop
  have hassemble := assemble_bytes i.operand
  unfold instrOf
  simp only [hoperation, hmode, hassemble]
  cases i with
  | rmb0 _ | rmb1 _ | rmb2 _ | rmb3 _ | rmb4 _ | rmb5 _ | rmb6 _ | rmb7 _
  | smb0 _ | smb1 _ | smb2 _ | smb3 _ | smb4 _ | smb5 _ | smb6 _ | smb7 _
  | bbr0 _ _ | bbr1 _ _ | bbr2 _ _ | bbr3 _ _ | bbr4 _ _ | bbr5 _ _ | bbr6 _ _ | bbr7 _ _
  | bbs0 _ _ | bbs1 _ _ | bbs2 _ _ | bbs3 _ _ | bbs4 _ _ | bbs5 _ _ | bbs6 _ _ | bbs7 _ _ =>
    cases hop
    rfl
  | jsr target => exact congrArg Instr.jsr (word_hi_lo target)
  | undef b o =>
    simp only [Instr.opcode?] at hop
    split at hop
    · cases hop; rfl
    · cases hop
  | _ => rfl

/-- Settles O1: the decoder reads the operand bytes back, and the opcode byte and the operand are the instruction's. -/
theorem decodeOfEncode : Obligations.DecodeOfEncode := by
  intro i rest hwf
  obtain ⟨op, hop⟩ := opcode_of_wf hwf
  rw [encode_of_opcode hop, decode_operand (opcode_row hop).2 rest, instrOf_of_opcode hop]

/-- Settles O2: the instruction made of the bytes read has their opcode byte and their operand. -/
theorem encodeOfDecode : Obligations.EncodeOfDecode := by
  intro bytes rest i h
  obtain ⟨op, b1, b2, rfl, rfl⟩ := decode_ok h
  have hop := instrOf_opcode? op b1 b2
  exact ⟨wf_of_opcode hop, by rw [encode_of_opcode hop, instrOf_operand]⟩

/-- Settles O3: the decoder needs at most the two bytes that stand there, and takes as many as the mode has. -/
theorem everyOpcodeByteDecodes : Obligations.EveryOpcodeByteDecodes := by
  intro op b1 b2 rest
  have hle := operandBytes_le (tableEntry op).mode
  have decoded : ∃ c1 c2, decode (op :: b1 :: b2 :: rest) =
      .ok (instrOf op c1 c2, (op :: b1 :: b2 :: rest).drop (instrLength op)) := by
    unfold instrLength
    match hn : operandBytes (tableEntry op).mode, hle with
    | 0, _ => exact ⟨0, 0, decode_zero hn⟩
    | 1, _ => exact ⟨b1, 0, decode_one hn⟩
    | 2, _ => exact ⟨b1, b2, decode_two hn⟩
  obtain ⟨c1, c2, hdecode⟩ := decoded
  exact ⟨_, hdecode, instrOf_opcode? op c1 c2, Nat.le_add_right 1 _, Nat.add_le_add_left hle 1⟩

/-- Settles O4: the decoder evaluates each of the eight words. -/
theorem specWordsDecode : Obligations.SpecWordsDecode := by
  refine ⟨?_, ?_, ?_, ?_, ?_, ?_, ?_, ?_⟩ <;> rfl

end Sys2Proof

namespace Sys2Proof.Machine

theorem paysPenalty_defaults (op : Byte) : paysPenalty Config.defaults op = pagePenalty op := rfl

/-- The list of R1303 is the sensitive operations in the modes that may cross a page (D3). -/
theorem pagePenalty_iff : ∀ op : Byte, pagePenalty op = true ↔
    ((tableEntry op).operation ∈ [.ADC, .SBC, .AND, .ORA, .EOR, .CMP, .LDA, .LDX, .LDY, .BIT] ∧
      (tableEntry op).mode ∈ [.ABSX, .ABSY, .INDY]) := by
  decide +kernel

/-- Settles O5: the default is the list, a configured value replaces it, and the cost adds it on a crossing. -/
theorem pagePenaltyIsForSensitiveOperations : Obligations.PagePenaltyIsForSensitiveOperations := by
  refine ⟨fun op => ?list, fun op => ?operations, fun params op => ?configured, fun params op extra adj => ?cost⟩
  case list => exact decide_eq_true_iff
  case operations => exact pagePenalty_iff op
  case configured =>
    unfold paysPenalty
    cases params.pagePenalties.lookup op <;> rfl
  case cost => simp only [cost, Bool.and_eq_true]

/-- A term that is no instruction is refused, in every state (log entry 16). -/
theorem exec_of_not_wf {i : Instr} (h : i.wf = false) (s : State) : exec i s = .refused .illFormed := by
  obtain ⟨operation, hexec⟩ := exec_eq_execute i
  rw [hexec, execute, opcode_of_not_wf h]

/-- An instruction answers a next state or a fault. -/
theorem exec_not_refused {i : Instr} (h : i.wf = true) (s : State) (r : Refusal) : exec i s ≠ .refused r := by
  obtain ⟨operation, hexec⟩ := exec_eq_execute i
  obtain ⟨op, hop⟩ := opcode_of_wf h
  simp only [hexec, execute, hop, outcomeOf]
  cases resolveAndRun op i.operand operation s <;> simp

/-- Settles O59: the opcode byte decides, and only a term that is no instruction has none. -/
theorem onlyIllFormedRefused : Obligations.OnlyIllFormedRefused := fun _ s =>
  ⟨fun h => exec_of_not_wf h s, fun h => exec_not_refused h s⟩

end Sys2Proof.Machine
end

section
/-!
PROOFS. What the resolver's answer says of an instruction (40_addressing_modes.md R400): which modes answer an operand byte,
an address, a crossing; and what an instruction with a resolved operand does (`exec_resolved`).
-/

namespace Sys2Proof.Machine

/-! ## The answer of the resolver -/

/-- What a resolver's answer has in a mode whose location is an address. -/
theorem atAddress_shape {s s1 : State} {loc : Word} {extra : Bool} {disp : Option Byte} {r : Resolved}
    (h : atAddress loc extra disp s = .ok r s1) :
    r.m = some r.byte ∧ r.loc = .addr loc ∧ r.extra = extra ∧ r.disp = disp := by
  obtain ⟨m, -, rfl⟩ := atAddress_ok h
  exact ⟨rfl, rfl, rfl, rfl⟩

/-- Which modes answer an operand byte, an address, and no crossing (R402 to R418). -/
theorem resolve_shape {o : Operand} {s s1 : State} {r : Resolved} (h : resolve o s = .ok r s1) :
    (o.mode ∉ [.IMP, .STACK] → r.m = some r.byte) ∧
    (o.mode ∉ [.IMP, .STACK, .ACC, .REL] → ∃ a, r.loc = .addr a) ∧
    (o.mode ∉ [.ABSX, .ABSY, .INDY] → r.extra = false) := by
  obtain ⟨s', u, h0, h⟩ := bind_ok h
  cases h0
  cases o with
  | imp | stack =>
    cases h
    exact ⟨fun hm => absurd hm (by simp [Operand.mode]), fun hm => absurd hm (by simp [Operand.mode]), fun _ => rfl⟩
  | acc | rel _ => cases h; exact ⟨fun _ => rfl, fun hm => absurd hm (by simp [Operand.mode]), fun _ => rfl⟩
  | imm _ => cases h; exact ⟨fun _ => rfl, fun _ => ⟨_, rfl⟩, fun _ => rfl⟩
  | zp _ | zpx _ | zpy _ | abs _ | zprel _ _ =>
    obtain ⟨hm, hloc, hextra, -⟩ := atAddress_shape h
    exact ⟨fun _ => hm, fun _ => ⟨_, hloc⟩, fun _ => hextra⟩
  | absx _ | absy _ =>
    obtain ⟨hm, hloc, -, -⟩ := atAddress_shape h
    exact ⟨fun _ => hm, fun _ => ⟨_, hloc⟩, fun hx => absurd hx (by simp [Operand.mode])⟩
  | ind _ | indx _ | zpind _ | absindx _ =>
    obtain ⟨w, v, -, h⟩ := bind_ok h
    obtain ⟨hm, hloc, hextra, -⟩ := atAddress_shape h
    exact ⟨fun _ => hm, fun _ => ⟨_, hloc⟩, fun _ => hextra⟩
  | indy _ =>
    obtain ⟨w, v, -, h⟩ := bind_ok h
    obtain ⟨hm, hloc, -, -⟩ := atAddress_shape h
    exact ⟨fun _ => hm, fun _ => ⟨_, hloc⟩, fun hx => absurd hx (by simp [Operand.mode])⟩

/-- The resolver's state in the form that can be substituted. -/
theorem resolve_devices {o : Operand} {s s1 : State} {r : Resolved} (h : resolve o s = .ok r s1) :
    ∃ draws log, s1 = { s with draws := draws, deviceLog := log } :=
  ⟨_, _, resolve_frame h⟩

/-- A mode of an instruction's own list lies outside a list disjoint from it. -/
theorem mode_not_mem {m : Mode} {modes others : List Mode} (h : decide (m ∈ modes) = true)
    (disjoint : ∀ x ∈ modes, x ∉ others) : m ∉ others :=
  disjoint m (of_decide_eq_true h)

/-! ## Instructions with a resolved operand -/

/-- An instruction whose operand resolves does what its operation does to the resolver's state, for its cost (R320). -/
theorem exec_resolved {i : Instr} {operation : Resolved → Op Nat} {s s1 t : State} {op : Byte} {r : Resolved} {adj : Nat}
    (hexec : exec i s = execute i operation s) (hres : Resolves i s op r s1) (ho : operation r s1 = .ok adj t) :
    exec i s = .next { t with countdown := cost t.params op r.extra adj } :=
  hexec.trans (execute_next hres.1 hres.2 ho)

/-- A load puts the operand in a register, and N and Z say what it is (R501 to R503). -/
theorem exec_load {i : Instr} {put : Byte → Op Unit} {s s1 t : State} {op : Byte} {r : Resolved}
    (hexec : exec i s = execute i (fun r => plain do put r.byte; updateNZ r.byte) s) (hres : Resolves i s op r s1)
    (hput : put r.byte s1 = .ok () t) :
    exec i s = .next { t with P := setNZ r.byte t.P, countdown := cost t.params op r.extra 0 } := by
  have ho : plain (do put r.byte; updateNZ r.byte) s1 = .ok 0 { t with P := setNZ r.byte t.P } := by
    simp only [plain_apply, bind_apply, hput, updateNZ_apply]
  exact exec_resolved hexec hres ho

/-- Settles O11: each load is `exec_load` on its own register. -/
theorem loadsPutOperandInRegister : Obligations.LoadsPutOperandInRegister := by
  intro o s s1 op r
  refine ⟨fun hres => ?lda, fun hres => ?ldx, fun hres => ?ldy⟩
  all_goals
    have hmode : o.mode ∉ [.IMP, .STACK] := mode_not_mem (wf_of_opcode hres.1) (by decide)
    have hm := (resolve_shape hres.2).1 hmode
    obtain ⟨draws, log, rfl⟩ := resolve_devices hres.2
    refine ⟨r.byte, setNZ r.byte s.P, hm, setNZ_setsNZ r.byte s.P, ?_⟩
  case lda => exact exec_load (put := setA) rfl hres rfl
  case ldx => exact exec_load (put := setX) rfl hres rfl
  case ldy => exact exec_load (put := setY) rfl hres rfl

/-! ## Logic, bit tests and compares -/

/-- Settles O24: the three are `logicA` on their own Boolean function. -/
theorem logicIntoAccumulator : Obligations.LogicIntoAccumulator := by
  intro o s s1 op r m hm iv hiv hres
  have hbyte : r.byte = m := by simp only [Resolved.byte, hm, Option.getD_some]
  obtain ⟨draws, log, rfl⟩ := resolve_devices hres.2
  refine ⟨setNZ iv.2 s.P, setNZ_setsNZ iv.2 s.P, ?_⟩
  simp only [List.mem_cons, List.not_mem_nil, or_false] at hiv
  rcases hiv with rfl | rfl | rfl <;> subst hbyte <;> exact exec_resolved rfl hres rfl

/-- Clearing and setting flags one after another changes bits of the joint mask only (R114). -/
theorem onlyFlags_putFlag {mask m p q : Byte} (v : Bool) (h : onlyFlags mask p q) (hsub : m &&& ~~~mask = 0) :
    onlyFlags mask p (putFlag m v q) :=
  (putFlag_keeps m _ v q hsub).trans h

theorem onlyFlags_setNZ {mask p q : Byte} (v : Byte) (h : onlyFlags mask p q) (hN : maskN &&& ~~~mask = 0)
    (hZ : maskZ &&& ~~~mask = 0) : onlyFlags mask p (setNZ v q) :=
  onlyFlags_putFlag _ (onlyFlags_putFlag _ h hN) hZ

/-- Settles O25: the operation is `bitFlags`, which writes N and V in the memory modes only. -/
theorem bitTestsOperand : Obligations.BitTestsOperand := by
  intro o s s1 op r hres
  have hmode : o.mode ∉ [.IMP, .STACK] := mode_not_mem (wf_of_opcode hres.1) (by decide)
  have hm := (resolve_shape hres.2).1 hmode
  obtain ⟨draws, log, rfl⟩ := resolve_devices hres.2
  refine ⟨r.byte, bitFlags (decide (o.mode = .IMM)) s.A r.byte s.P, hm, exec_resolved rfl hres rfl, ?_, ?_, ?_⟩
  · unfold bitFlags
    split <;> simp
  · intro himm
    simp only [bitFlags, himm, decide_true, if_true]
    exact onlyFlags_putFlag _ rfl (by decide)
  · intro hmem
    simp only [bitFlags, hmem, decide_false, Bool.false_eq_true, if_false]
    exact ⟨by simp, by simp,
      onlyFlags_putFlag _ (onlyFlags_putFlag _ (onlyFlags_putFlag _ rfl (by decide)) (by decide)) (by decide)⟩

/-- Bit 7 of a byte (R10). -/
theorem getLsbD_seven (b : Byte) : b.getLsbD 7 = decide (128 ≤ b.toNat) := by
  revert b; decide

/-- The flags of a compare (R707). -/
theorem cmpFlags_spec (x m p : Byte) :
    flagC (cmpFlags x m p) = decide (m.toNat ≤ x.toNat) ∧ flagZ (cmpFlags x m p) = decide (x = m) ∧
    flagN (cmpFlags x m p) = decide (128 ≤ (x.toNat + 256 - m.toNat) % 256) ∧
    onlyFlags (maskN ||| maskZ ||| maskC) p (cmpFlags x m p) := by
  unfold cmpFlags
  refine ⟨by simp, ?_, ?_, onlyFlags_setNZ _ (onlyFlags_putFlag _ rfl (by decide)) (by decide) (by decide)⟩
  · simp only [flagZ_setNZ]
    exact decide_eq_decide.2 ⟨fun h => by bv_omega, fun h => by rw [h, BitVec.sub_self]; rfl⟩
  · rw [flagN_setNZ, getLsbD_seven, BitVec.toNat_sub]
    have := m.isLt
    congr 3
    omega

/-- Settles O21: the three are `compareWith` on their own register. -/
theorem comparesSetFlags : Obligations.ComparesSetFlags := by
  intro o s s1 op r iv hiv hres
  have hmode : iv.1.operand.mode ∉ [.IMP, .STACK] := by
    simp only [List.mem_cons, List.not_mem_nil, or_false] at hiv
    rcases hiv with rfl | rfl | rfl <;> exact mode_not_mem (wf_of_opcode hres.1) (by decide)
  have hm := (resolve_shape hres.2).1 hmode
  obtain ⟨draws, log, rfl⟩ := resolve_devices hres.2
  refine ⟨r.byte, cmpFlags iv.2 r.byte s.P, hm, ?_, cmpFlags_spec iv.2 r.byte s.P⟩
  simp only [List.mem_cons, List.not_mem_nil, or_false] at hiv
  rcases hiv with rfl | rfl | rfl <;> exact exec_resolved rfl hres rfl

end Sys2Proof.Machine
end

section
/-!
PROOFS. Addition and subtraction into A (43_arithmetic.md R701 to R706). Subtraction is addition of the complement of the
operand, so C and V of both come from one fact about sums (`overflow_sum`); the decimal forms correct the digits of the
same sums.
-/

namespace Sys2Proof.Machine

/-! ## Numbers and bits -/

theorem carryIn_le (c : Bool) : carryIn c ≤ 1 := by
  cases c <;> decide

theorem u8_toNat (n : Nat) : (u8 n).toNat = n % 256 := BitVec.toNat_ofNat n 8

theorem u8i_toNat (n : Int) : ((u8i n).toNat : Int) = n % 256 := by
  have hnonneg : 0 ≤ n % 256 := Int.emod_nonneg n (by decide)
  simp only [u8i, BitVec.toNat_ofInt]
  exact Int.toNat_of_nonneg hnonneg

theorem complement_eq (m : Byte) : m ^^^ 0xFF#8 = ~~~m := BitVec.xor_allOnes

theorem complement_toNat (m : Byte) : (m ^^^ 0xFF#8).toNat = 255 - m.toNat := by
  rw [complement_eq, BitVec.toNat_not]

/-- The high digit of a byte in its place. -/
theorem highDigit_toNat (a : Byte) : (a &&& 0xF0#8).toNat = a.toNat / 16 * 16 := by
  revert a; decide

theorem byte_toInt (b : Byte) : b.toInt = b.toNat - if b.getLsbD 7 then 256 else 0 := by
  revert b; decide

theorem sign_bit_ne_zero (b : Byte) : b &&& 0x80#8 ≠ 0 ↔ b.getLsbD 7 = true := by
  revert b; decide

/-- The sum of two bytes and a carry leaves the signed range exactly when the operands have one sign and the result the
other (R701: V). -/
theorem overflow_sum (a m : Byte) {c : Nat} (hc : c ≤ 1) :
    (~~~(a ^^^ m) &&& (a ^^^ u8 (a.toNat + m.toNat + c)) &&& 0x80#8 ≠ 0) ↔
      (a.toInt + m.toInt + c < -128 ∨ 127 < a.toInt + m.toInt + c) := by
  have ha := a.isLt
  have hm := m.isLt
  rw [sign_bit_ne_zero, byte_toInt a, byte_toInt m]
  simp only [BitVec.getLsbD_and, BitVec.getLsbD_not, BitVec.getLsbD_xor]
  simp only [getLsbD_seven, u8_toNat]
  generalize a.toNat = x at *
  generalize m.toNat = y at *
  by_cases hx : 128 ≤ x <;> by_cases hy : 128 ≤ y <;> by_cases hr : 128 ≤ (x + y + c) % 256 <;>
    simp [hx, hy, hr] <;> omega

section
variable (a m : Byte) {c : Nat} (hc : c ≤ 1)
include hc

/-- The difference of two bytes and a borrow, in the same way (R702: V). -/
theorem overflow_difference :
    ((a ^^^ m) &&& (a ^^^ u8 (a.toNat + (m ^^^ 0xFF#8).toNat + c)) &&& 0x80#8 ≠ 0) ↔
      (a.toInt - m.toInt - (1 - c : Nat) < -128 ∨ 127 < a.toInt - m.toInt - (1 - c : Nat)) := by
  have hxor : a ^^^ m = ~~~(a ^^^ ~~~m) := by
    rw [← BitVec.not_xor_right, BitVec.not_not]
  rw [hxor, complement_eq, overflow_sum a _ hc, BitVec.toInt_not]
  have := m.isLt
  rw [byte_toInt a, byte_toInt m, getLsbD_seven, getLsbD_seven]
  simp only [decide_eq_true_eq, Int.bmod]
  omega

/-- A sum with the complement reaches 256 when there is no borrow (R702: C). -/
theorem no_borrow_iff : 0xFF < a.toNat + (m ^^^ 0xFF#8).toNat + c ↔ m.toNat + (1 - c) ≤ a.toNat := by
  have := m.isLt
  rw [complement_toNat]
  omega

theorem difference_toNat :
    (u8 (a.toNat + (m ^^^ 0xFF#8).toNat + c)).toNat = (a.toNat + 256 - m.toNat - (1 - c)) % 256 := by
  have := m.isLt
  rw [u8_toNat, complement_toNat]
  congr 1
  omega

end

/-! ## Binary addition and subtraction -/

/-- The flags that an addition or subtraction writes (R710, R711). -/
abbrev maskNVZC : Byte := maskN ||| maskV ||| maskZ ||| maskC

section
variable (a m p : Byte)

/-- `adc_bin` as numbers (R701). -/
theorem adcBin_spec :
    (adcBin a m p).1.toNat = (a.toNat + m.toNat + carryIn (flagC p)) % 256 ∧
    flagC (adcBin a m p).2 = decide (256 ≤ a.toNat + m.toNat + carryIn (flagC p)) ∧
    flagV (adcBin a m p).2 = decide (a.toInt + m.toInt + carryIn (flagC p) < -128 ∨
      127 < a.toInt + m.toInt + carryIn (flagC p)) ∧
    flagN (adcBin a m p).2 = (adcBin a m p).1.getLsbD 7 ∧ flagZ (adcBin a m p).2 = decide ((adcBin a m p).1 = 0) ∧
    onlyFlags maskNVZC p (adcBin a m p).2 := by
  refine ⟨u8_toNat _, ?c, ?v, flagN_setNZ _ _, flagZ_setNZ _ _, ?only⟩
  case c => simp [adcBin, Nat.lt_iff_add_one_le]
  case v =>
    simp only [adcBin, flagV_setNZ, flagV_setC, flagV_setV]
    exact decide_eq_decide.2 (overflow_sum a m (carryIn_le _))
  case only =>
    exact onlyFlags_setNZ _ (onlyFlags_putFlag _ (onlyFlags_putFlag _ rfl (by decide)) (by decide)) (by decide)
      (by decide)

/-- `sbc_bin` as numbers (R702). -/
theorem sbcBin_spec :
    (sbcBin a m p).1.toNat = (a.toNat + 256 - m.toNat - (1 - carryIn (flagC p))) % 256 ∧
    flagC (sbcBin a m p).2 = decide (m.toNat + (1 - carryIn (flagC p)) ≤ a.toNat) ∧
    flagV (sbcBin a m p).2 = decide (a.toInt - m.toInt - (1 - carryIn (flagC p) : Nat) < -128 ∨
      127 < a.toInt - m.toInt - (1 - carryIn (flagC p) : Nat)) ∧
    flagN (sbcBin a m p).2 = (sbcBin a m p).1.getLsbD 7 ∧ flagZ (sbcBin a m p).2 = decide ((sbcBin a m p).1 = 0) ∧
    onlyFlags maskNVZC p (sbcBin a m p).2 := by
  refine ⟨difference_toNat a m (carryIn_le _), ?c, ?v, flagN_setNZ _ _, flagZ_setNZ _ _, ?only⟩
  case c =>
    simp only [sbcBin, flagC_setNZ, flagC_setV, flagC_setC]
    exact decide_eq_decide.2 (no_borrow_iff a m (carryIn_le _))
  case v =>
    simp only [sbcBin, flagV_setNZ, flagV_setV]
    exact decide_eq_decide.2 (overflow_difference a m (carryIn_le _))
  case only =>
    exact onlyFlags_setNZ _ (onlyFlags_putFlag _ (onlyFlags_putFlag _ rfl (by decide)) (by decide)) (by decide)
      (by decide)

/-! ## Decimal addition and subtraction -/

/-- N and Z in decimal mode (R705). -/
theorem decimalNz_spec (mode : DecimalNZ) (r : Byte) (tn : Option Byte) (bin : Byte) :
    (mode = .final → flagN (decimalNz mode r tn bin p) = r.getLsbD 7 ∧
      flagZ (decimalNz mode r tn bin p) = decide (r = 0)) ∧
    (mode = .nmos → flagN (decimalNz mode r tn bin p) = (tn.getD bin).getLsbD 7 ∧
      flagZ (decimalNz mode r tn bin p) = decide (bin = 0)) := by
  refine ⟨?_, ?_⟩ <;> rintro rfl <;> simp [decimalNz]

@[simp] theorem flagC_decimalNz (mode : DecimalNZ) (r : Byte) (tn : Option Byte) (bin : Byte) :
    flagC (decimalNz mode r tn bin p) = flagC p := by
  cases mode <;> simp [decimalNz]

@[simp] theorem flagV_decimalNz (mode : DecimalNZ) (r : Byte) (tn : Option Byte) (bin : Byte) :
    flagV (decimalNz mode r tn bin p) = flagV p := by
  cases mode <;> simp [decimalNz]

theorem onlyFlags_decimalNz {q : Byte} (mode : DecimalNZ) (r : Byte) (tn : Option Byte) (bin : Byte)
    (h : onlyFlags maskNVZC p q) : onlyFlags maskNVZC p (decimalNz mode r tn bin q) := by
  cases mode with
  | final => exact onlyFlags_setNZ _ h (by decide) (by decide)
  | nmos => exact onlyFlags_putFlag _ (onlyFlags_putFlag _ h (by decide)) (by decide)

theorem u8_eq_zero (n : Nat) : u8 n = 0 ↔ n % 256 = 0 := by
  rw [← u8_toNat]
  exact ⟨fun h => by rw [h]; rfl, fun h => BitVec.eq_of_toNat_eq h⟩

theorem u8_getLsbD_seven (n : Nat) : (u8 n).getLsbD 7 = n.testBit 7 := by
  simp only [u8, BitVec.getLsbD_ofNat]
  rfl

variable (mode : DecimalNZ)

/-- `adc_dec` step by step (R703): `al` is the corrected low digit, `t` the intermediate, `t'` the corrected sum. -/
theorem adcDec_eq {c al t t' : Nat} (hc : c = carryIn (flagC p))
    (hal : al = if a.toNat % 16 + m.toNat % 16 + c < 10 then a.toNat % 16 + m.toNat % 16 + c
      else (a.toNat % 16 + m.toNat % 16 + c + 6) % 16 + 16)
    (ht : t = a.toNat / 16 * 16 + m.toNat / 16 * 16 + al) (ht' : t' = if t < 0xA0 then t else t + 0x60) :
    adcDec mode a m p = (u8 t', decimalNz mode (u8 t') (some (u8 t)) (u8 (a.toNat + m.toNat + c))
      (setC (decide (256 ≤ t')) (setV (decide ((a &&& 0xF0).toInt + (m &&& 0xF0).toInt + al < -128 ∨
        127 < (a &&& 0xF0).toInt + (m &&& 0xF0).toInt + al)) p))) := by
  have hlow : al = if 0x0A ≤ a.toNat % 16 + m.toNat % 16 + c
      then (a.toNat % 16 + m.toNat % 16 + c + 0x06) % 16 + 0x10 else a.toNat % 16 + m.toNat % 16 + c := by
    simp only [hal, ← Nat.not_lt, ite_not]
  have hhigh : t' = if 0xA0 ≤ t then t + 0x60 else t := by
    simp only [ht', ← Nat.not_lt, ite_not]
  unfold adcDec
  simp only [← hc, ← hlow, highDigit_toNat, ← ht, ← hhigh]
  rfl

/-- `sbc_dec` step by step (R704): `al` is the corrected low digit, `t` the intermediate, `t'` the corrected difference. -/
theorem sbcDec_eq {c : Nat} {l al t t' : Int} (hc : c = carryIn (flagC p))
    (hl : l = (a.toNat % 16 : Nat) - (m.toNat % 16 : Nat) + c - 1) (hal : al = if 0 ≤ l then l else (l - 6) % 16 - 16)
    (ht : t = (a.toNat / 16 * 16 : Nat) - (m.toNat / 16 * 16 : Nat) + al) (ht' : t' = if 0 ≤ t then t else t - 0x60) :
    sbcDec mode a m p = (u8i t', decimalNz mode (u8i t') none (u8 (a.toNat + (m ^^^ 0xFF#8).toNat + c))
      (setV (decide ((a ^^^ m) &&& (a ^^^ u8 (a.toNat + (m ^^^ 0xFF#8).toNat + c)) &&& 0x80#8 ≠ 0))
        (setC (decide (0xFF < a.toNat + (m ^^^ 0xFF#8).toNat + c)) p))) := by
  have hlow : al = if l < 0 then (l - 0x06) % 16 - 0x10 else l := by
    simp only [hal, ← Int.not_le, ite_not]
  have hhigh : t' = if t < 0 then t - 0x60 else t := by
    simp only [ht', ← Int.not_le, ite_not]
  unfold sbcDec
  simp only [← hc, ← hl, ← hlow, highDigit_toNat, ← ht, ← hhigh]

end

/-! ## The instructions -/

theorem adcAlu_binary {p : Byte} (h : flagD p = false) (mode : DecimalNZ) (a m : Byte) :
    adcAlu mode a m p = adcBin a m p := by
  simp [adcAlu, h]

theorem sbcAlu_binary {p : Byte} (h : flagD p = false) (mode : DecimalNZ) (a m : Byte) :
    sbcAlu mode a m p = sbcBin a m p := by
  simp [sbcAlu, h]

theorem adcAlu_decimal {p : Byte} (h : flagD p = true) (mode : DecimalNZ) (a m : Byte) :
    adcAlu mode a m p = adcDec mode a m p := by
  simp [adcAlu, h]

theorem sbcAlu_decimal {p : Byte} (h : flagD p = true) (mode : DecimalNZ) (a m : Byte) :
    sbcAlu mode a m p = sbcDec mode a m p := by
  simp [sbcAlu, h]

/-- An addition or subtraction puts what its unit computes in A and P (R710, R711). -/
theorem exec_intoA {i : Instr} {alu : DecimalNZ → Byte → Byte → Byte → Byte × Byte} {s s1 : State} {op : Byte}
    {r : Resolved} (hexec : exec i s = execute i (intoA alu) s) (hres : Resolves i s op r s1) :
    exec i s = .next { s with
      A := (alu s.params.decimalNZ s.A r.byte s.P).1
      P := (alu s.params.decimalNZ s.A r.byte s.P).2
      countdown := cost s.params op r.extra 0
      draws := s1.draws
      deviceLog := s1.deviceLog } := by
  obtain ⟨draws, log, rfl⟩ := resolve_devices hres.2
  exact exec_resolved hexec hres rfl

/-- Settles O16: without D the unit is `adcBin`. -/
theorem binaryAddition : Obligations.BinaryAddition := by
  intro o s s1 op r hres hD
  have hmode : o.mode ∉ [.IMP, .STACK] := mode_not_mem (wf_of_opcode hres.1) (by decide)
  have hnext := exec_intoA (alu := adcAlu) rfl hres
  rw [adcAlu_binary hD] at hnext
  exact ⟨r.byte, _, _, (resolve_shape hres.2).1 hmode, hnext, adcBin_spec s.A r.byte s.P⟩

/-- Settles O17: without D the unit is `sbcBin`. -/
theorem binarySubtraction : Obligations.BinarySubtraction := by
  intro o s s1 op r hres hD
  have hmode : o.mode ∉ [.IMP, .STACK] := mode_not_mem (wf_of_opcode hres.1) (by decide)
  have hnext := exec_intoA (alu := sbcAlu) rfl hres
  rw [sbcAlu_binary hD] at hnext
  exact ⟨r.byte, _, _, (resolve_shape hres.2).1 hmode, hnext, sbcBin_spec s.A r.byte s.P⟩

/-- Settles O18: with D the unit is `adcDec`, whose steps are the statement's. -/
theorem decimalAddition : Obligations.DecimalAddition := by
  intro o s s1 op r hres hD
  have hmode : o.mode ∉ [.IMP, .STACK] := mode_not_mem (wf_of_opcode hres.1) (by decide)
  have hnext := exec_intoA (alu := adcAlu) rfl hres
  rw [adcAlu_decimal hD, adcDec_eq s.A r.byte s.P s.params.decimalNZ rfl rfl rfl rfl] at hnext
  refine ⟨r.byte, _, _, _, _, _, _, _, (resolve_shape hres.2).1 hmode, hnext, rfl, rfl, rfl, rfl, rfl, u8_toNat _,
    ?c, ?v, (decimalNz_spec _ _ _ _ _).1, fun hnmos => ?nmos, ?only⟩
  case c => rw [flagC_decimalNz, flagC_setC]
  case v => rw [flagV_decimalNz, flagV_setC, flagV_setV]
  case nmos =>
    obtain ⟨hN, hZ⟩ := (decimalNz_spec _ _ _ _ _).2 hnmos
    exact ⟨hN.trans (u8_getLsbD_seven _), hZ.trans (decide_eq_decide.2 (u8_eq_zero _))⟩
  case only =>
    exact onlyFlags_decimalNz _ _ _ _ _ (onlyFlags_putFlag _ (onlyFlags_putFlag _ rfl (by decide)) (by decide))

/-- Settles O19: with D the unit is `sbcDec`, whose steps are the statement's. -/
theorem decimalSubtraction : Obligations.DecimalSubtraction := by
  intro o s s1 op r hres hD
  have hmode : o.mode ∉ [.IMP, .STACK] := mode_not_mem (wf_of_opcode hres.1) (by decide)
  have hc := carryIn_le (flagC s.P)
  have hb := difference_toNat s.A r.byte hc
  have hnext := exec_intoA (alu := sbcAlu) rfl hres
  rw [sbcAlu_decimal hD, sbcDec_eq s.A r.byte s.P s.params.decimalNZ rfl rfl rfl rfl rfl] at hnext
  refine ⟨r.byte, _, _, _, _, _, _, _, _, (resolve_shape hres.2).1 hmode, hnext, rfl, rfl, rfl, rfl, rfl, rfl,
    u8i_toNat _, ?c, ?v, (decimalNz_spec _ _ _ _ _).1, fun hnmos => ?nmos, ?only⟩
  case c =>
    rw [flagC_decimalNz, flagC_setV, flagC_setC]
    exact decide_eq_decide.2 (no_borrow_iff s.A r.byte hc)
  case v =>
    rw [flagV_decimalNz, flagV_setV]
    exact decide_eq_decide.2 (overflow_difference s.A r.byte hc)
  case nmos =>
    obtain ⟨hN, hZ⟩ := (decimalNz_spec _ _ _ _ _).2 hnmos
    rw [← hb]
    exact ⟨hN, hZ.trans (decide_eq_decide.2 BitVec.toNat_inj.symm)⟩
  case only =>
    exact onlyFlags_decimalNz _ _ _ _ _ (onlyFlags_putFlag _ (onlyFlags_putFlag _ rfl (by decide)) (by decide))

/-- Two decimal digits below 100 in binary-coded form. -/
theorem bcd_digits {z d1 d0 : Nat} (h : z = 10 * d1 + d0) (h0 : d0 < 10) : z / 10 * 16 + z % 10 = d1 * 16 + d0 := by
  omega

/-- The corrected sum of two decimal numbers is their decimal sum: the low digit is corrected from 10 on, the high digit
from 100 on (D17). -/
theorem decimal_sum {x1 x0 y1 y0 c al t t' z : Nat} (hx1 : x1 < 10) (hx0 : x0 < 10) (hy1 : y1 < 10) (hy0 : y0 < 10)
    (hc : c ≤ 1) (hal : al = if x0 + y0 + c < 10 then x0 + y0 + c else (x0 + y0 + c + 6) % 16 + 16)
    (ht : t = x1 * 16 + y1 * 16 + al) (ht' : t' = if t < 0xA0 then t else t + 0x60)
    (hz : z = 10 * x1 + x0 + (10 * y1 + y0) + c) :
    t' % 256 = z % 100 / 10 * 16 + z % 100 % 10 ∧ (256 ≤ t' ↔ 100 ≤ z) := by
  split_ifs at hal with h0
  · split_ifs at ht' with h1
    · rw [bcd_digits (d1 := x1 + y1) (d0 := x0 + y0 + c)] <;> omega
    · rw [bcd_digits (d1 := x1 + y1 - 10) (d0 := x0 + y0 + c)] <;> omega
  · have hal' : al = x0 + y0 + c + 6 := by omega
    split_ifs at ht' with h1
    · rw [bcd_digits (d1 := x1 + y1 + 1) (d0 := x0 + y0 + c - 10)] <;> omega
    · rw [bcd_digits (d1 := x1 + y1 + 1 - 10) (d0 := x0 + y0 + c - 10)] <;> omega

/-- The corrected difference of two decimal numbers is their decimal difference (D19). -/
theorem decimal_difference {x1 x0 y1 y0 c z : Nat} {l al t t' : Int} (hx1 : x1 < 10) (hx0 : x0 < 10) (hy1 : y1 < 10)
    (hy0 : y0 < 10) (hc : c ≤ 1) (hl : l = (x0 : Int) - y0 + c - 1) (hal : al = if 0 ≤ l then l else (l - 6) % 16 - 16)
    (ht : t = ((x1 * 16 : Nat) : Int) - (y1 * 16 : Nat) + al) (ht' : t' = if 0 ≤ t then t else t - 0x60)
    (hz : z = 10 * x1 + x0 + 100 - (10 * y1 + y0) - (1 - c)) :
    t' % 256 = ((z % 100 / 10 * 16 + z % 100 % 10 : Nat) : Int) := by
  split_ifs at hal with h0
  · split_ifs at ht' with h1
    · rw [bcd_digits (d1 := x1 - y1) (d0 := x0 + c - 1 - y0)] <;> omega
    · rw [bcd_digits (d1 := x1 + 10 - y1) (d0 := x0 + c - 1 - y0)] <;> omega
  · have hal' : al = l + 10 - 16 := by omega
    split_ifs at ht' with h1
    · rw [bcd_digits (d1 := x1 - 1 - y1) (d0 := x0 + c + 9 - y0)] <;> omega
    · rw [bcd_digits (d1 := x1 + 9 - y1) (d0 := x0 + c + 9 - y0)] <;> omega

/-- Settles O20: on decimal digits the units compute the decimal sum and difference. -/
theorem decimalArithmeticIsDecimal : Obligations.DecimalArithmeticIsDecimal := by
  intro mode x y a m p hx hy ha hm hD
  have hc := carryIn_le (flagC p)
  have hx1 : x / 10 < 10 := by omega
  have hy1 : y / 10 < 10 := by omega
  have hx0 : x % 10 < 10 := Nat.mod_lt x (by decide)
  have hy0 : y % 10 < 10 := Nat.mod_lt y (by decide)
  have ha1 : a.toNat / 16 = x / 10 := by omega
  have hm1 : m.toNat / 16 = y / 10 := by omega
  have ha0 : a.toNat % 16 = x % 10 := by omega
  have hm0 : m.toNat % 16 = y % 10 := by omega
  refine ⟨⟨_, rfl, ?sum⟩, ⟨_, rfl, ?difference⟩⟩
  case sum =>
    rw [adcAlu_decimal hD, adcDec_eq a m p mode rfl rfl rfl rfl]
    simp only [flagC_decimalNz, flagC_setC, u8_toNat, ha0, hm0, ha1, hm1, decide_eq_decide]
    exact decimal_sum hx1 hx0 hy1 hy0 hc rfl rfl rfl (by omega)
  case difference =>
    rw [sbcAlu_decimal hD, sbcDec_eq a m p mode rfl rfl rfl rfl rfl]
    simp only [flagC_decimalNz, flagC_setV, flagC_setC, decide_eq_decide, no_borrow_iff a m hc]
    refine ⟨?_, by omega⟩
    rw [← Int.ofNat_inj, u8i_toNat, ha0, hm0, ha1, hm1]
    exact decimal_difference hx1 hx0 hy1 hy0 hc rfl rfl rfl rfl (by omega)

end Sys2Proof.Machine
end

section
/-!
PROOFS. The bytes a bus write and a push leave (20_memory.md R210, R230 to R232), and the instructions that store: one fact
about an operation that writes P, then a byte, then P again (`exec_storing`) covers the stores, the read-modify-write
instructions and the bit operations.
-/

namespace Sys2Proof.Machine

/-! ## The bus -/

theorem ramAt_holdsBytes {s : State} {a : Word} (h : ramAt s a = true) : holdsBytes s.devices a = true := by
  unfold ramAt at h
  cases hd : ownerOf s.devices a.toNat with
  | none =>
    rw [hd] at h
    cases h
  | some d =>
    rw [hd] at h
    have hk : d.kind = .ram := of_decide_eq_true h
    simp only [holdsBytes, hd]
    exact decide_eq_true (.inl hk)

/-- A write to an address no device owns is an AddressError and has no effect (R205, R1230). -/
theorem busWrite_unowned {s : State} {a : Word} {v : Byte} (h : readableAt s a = false) :
    busWrite a v s = .error (.addressError a) s := by
  unfold readableAt at h
  rw [Option.isSome_eq_false_iff, Option.isNone_iff_eq_none] at h
  simp [busWrite, h]

/-- The bytes after one byte of memory has been written (R210). -/
theorem byteAt_of_write {s t : State} {a : Word} {v : Byte} (hinv : s.Inv) (hp : t.params = s.params)
    (hm : t.mem = Memory.write s.params.ramInit s.mem a.toNat v) : t.byteAt a = v ∧ sameMemoryBut [a] s t := by
  obtain ⟨⟨hsorted, -⟩, -⟩ := hinv
  unfold State.byteAt
  rw [hp, hm]
  refine ⟨read_write_self hsorted, fun b hb => ?_⟩
  have hne : b.toNat ≠ a.toNat := fun e => hb (by rw [BitVec.eq_of_toNat_eq e]; exact List.mem_singleton.2 rfl)
  unfold State.byteAt
  rw [hp, hm, read_write_ne hne]

/-- Settles O6: a RAM takes the byte, and RAM and ROM answer what the memory holds. -/
theorem busWriteThenRead : Obligations.BusWriteThenRead := by
  intro s a v hinv hram
  obtain ⟨t, ht⟩ : ∃ t, t = { s with mem := Memory.write s.params.ramInit s.mem a.toNat v } := ⟨_, rfl⟩
  have hdevices : t.devices = s.devices := by rw [ht]
  obtain ⟨hself, hother⟩ := byteAt_of_write (t := t) (a := a) (v := v) hinv (by rw [ht]) (by rw [ht])
  refine ⟨t, (busWrite_ram hram).trans (by rw [ht]), by rw [ht], ?_, fun b hb hholds => ?_⟩
  · rw [← hself]
    exact busRead_holds (by rw [hdevices]; exact ramAt_holdsBytes hram)
  · rw [← hother b (by simpa using hb)]
    exact busRead_holds (by rw [hdevices]; exact hholds)

/-! ## The stack -/

theorem stackAddr_toNat (i : Byte) : (stackAddr i).toNat = 256 + i.toNat := by
  have := i.isLt
  simp only [stackAddr, zext, BitVec.toNat_add, BitVec.toNat_setWidth, BitVec.toNat_ofNat]
  omega

theorem push_ok {s t : State} {v : Byte} (h : busWrite (stackAddr s.S) v s = .ok () t) :
    push v s = .ok () { t with S := s.S - 1 } := by
  simp [push, h]

theorem push_error {s t : State} {v : Byte} {e : BusError} (h : busWrite (stackAddr s.S) v s = .error e t) :
    push v s = .error e s := by
  simp [push, h, busWrite_error h]

theorem pull_ok {s t : State} {b : Byte} (h : busRead (stackAddr (s.S + 1)) { s with S := s.S + 1 } = .ok b t) :
    pull s = .ok b t := by
  simp only [pull, bind_apply, getState_apply, setS_apply, h]

theorem pull_error {s t : State} {e : BusError}
    (h : busRead (stackAddr (s.S + 1)) { s with S := s.S + 1 } = .error e t) :
    pull s = .error e { s with S := s.S + 1 } := by
  simp only [pull, bind_apply, getState_apply, setS_apply, h, (busRead_error h).1]

theorem pull_unowned {s : State} (h : readableAt s (stackAddr (s.S + 1)) = false) :
    pull s = .error (.addressError (stackAddr (s.S + 1))) { s with S := s.S + 1 } :=
  pull_error (busRead_unowned (s := { s with S := s.S + 1 }) h)

/-- Settles O7: a push and a pull are the bus access and the step of S, in their order. -/
theorem stackPushAndPull : Obligations.StackPushAndPull := by
  intro s v hinv
  refine ⟨stackAddr_toNat, byte_toNat_sub_one s.S, byte_toNat_add_one s.S, fun _ => push_ok, fun _ _ => push_error,
    fun _ _ => pull_ok, fun _ _ => pull_error, fun hram => ?ram, fun hro => push_error (busWrite_readOnly hro),
    fun hun => push_error (busWrite_unowned hun), pull_holds, pull_unowned⟩
  case ram => exact ⟨_, push_ram hram, rfl, byteAt_of_write hinv rfl rfl⟩

/-! ## Pushes and pulls -/

/-- An instruction of the stack mode resolves to nothing. -/
theorem resolves_stack {i : Instr} {op : Byte} (hop : i.opcode? = some op) (hstack : i.operand = .stack) (s : State) :
    Resolves i s op ⟨.none, none, false, none⟩ s := by
  refine ⟨hop, ?_⟩
  rw [hstack]
  rfl

theorem pushValue_ok {value : State → Byte} {s t : State} (h : busWrite (stackAddr s.S) (value s) s = .ok () t) :
    pushValue value s = .ok 0 { t with S := s.S - 1 } := by
  simp only [pushValue, plain_apply, bind_apply, getState_apply, push_ok h]

theorem pushValue_error {value : State → Byte} {s t : State} {e : BusError}
    (h : busWrite (stackAddr s.S) (value s) s = .error e t) : pushValue value s = .error e s := by
  simp only [pushValue, plain_apply, bind_apply, getState_apply, push_error h]

/-- A push of `value s` (R607, R608, R611, R612), by what owns the stack byte. -/
theorem exec_pushValue {i : Instr} {value : State → Byte} {s : State} {op : Byte} (hinv : s.Inv)
    (hexec : exec i s = execute i (fun _ => pushValue value) s) (hop : i.opcode? = some op)
    (hstack : i.operand = .stack) :
    (ramAt s (stackAddr s.S) = true → ∃ t, exec i s = .next t ∧
      t = { s with S := s.S - 1, mem := t.mem, countdown := baseCycles s.params op } ∧
      t.byteAt (stackAddr s.S) = value s ∧ sameMemoryBut [stackAddr s.S] s t) ∧
    (∀ d, ownerOf s.devices (stackAddr s.S).toNat = some d → d.kind = .external false → exec i s = .next { s with
      S := s.S - 1
      countdown := baseCycles s.params op
      deviceLog := s.deviceLog ++ [⟨d.base, d.index (stackAddr s.S).toNat, some (value s)⟩] }) ∧
    (readOnlyAt s (stackAddr s.S) = true →
      exec i s = .fault (.writeProtectionError (stackAddr s.S) { s with phase := .faulted })) ∧
    (readableAt s (stackAddr s.S) = false →
      exec i s = .fault (.addressError (stackAddr s.S) { s with phase := .faulted })) := by
  have hres := resolves_stack hop hstack s
  have next : ∀ {t}, busWrite (stackAddr s.S) (value s) s = .ok () t →
      exec i s = .next { t with S := s.S - 1, countdown := baseCycles t.params op } := fun h =>
    exec_resolved hexec hres (pushValue_ok h)
  have fault : ∀ {e t}, busWrite (stackAddr s.S) (value s) s = .error e t → exec i s = .fault (e.fault s) := fun h =>
    hexec.trans (execute_fault hres.1 hres.2 (pushValue_error h))
  refine ⟨fun hram => ?ram, fun d hd hk => ?external, fun hro => ?readOnly, fun hun => ?unowned⟩
  case ram => exact ⟨_, next (busWrite_ram hram), rfl, byteAt_of_write hinv rfl rfl⟩
  case external => exact next (busWrite_external hd hk)
  case readOnly => exact fault (busWrite_readOnly hro)
  case unowned => exact fault (busWrite_unowned hun)

theorem imageSw_eq (p : Byte) : imageSw p = p ||| 0x30 := BitVec.or_assoc p maskB maskU

/-- Settles O14: each of the four is `pushValue` of its own byte. -/
theorem pushesStoreOnStack : Obligations.PushesStoreOnStack := by
  intro s hinv x hx
  simp only [List.mem_cons, List.not_mem_nil, or_false] at hx
  rcases hx with rfl | rfl | rfl | rfl
  · exact exec_pushValue (i := .pha) hinv rfl rfl rfl
  · rw [← imageSw_eq]
    exact exec_pushValue (i := .php) (value := fun s => imageSw s.P) hinv rfl rfl rfl
  · exact exec_pushValue (i := .phx) hinv rfl rfl rfl
  · exact exec_pushValue (i := .phy) hinv rfl rfl rfl

section
variable {i : Instr} {rest : Byte → Op Unit} {s : State} {op : Byte}
  (hexec : exec i s = execute i (fun _ => plain (pull >>= rest)) s) (hop : i.opcode? = some op)
  (hstack : i.operand = .stack)
include hexec hop hstack

/-- An instruction that first pulls, when RAM or ROM holds the byte. -/
theorem exec_pull {t : State} (hholds : holdsBytes s.devices (stackAddr (s.S + 1)) = true)
    (hrest : rest (s.byteAt (stackAddr (s.S + 1))) { s with S := s.S + 1 } = .ok () t) :
    exec i s = .next { t with countdown := baseCycles t.params op } := by
  have ho : plain (pull >>= rest) s = .ok 0 t := by
    simp only [plain_apply, bind_apply, pull_holds hholds, hrest]
  exact exec_resolved hexec (resolves_stack hop hstack s) ho

/-- An instruction that first pulls, when no device owns the byte (R232, R1230). -/
theorem exec_pull_unowned (hun : readableAt s (stackAddr (s.S + 1)) = false) :
    exec i s = .fault (.addressError (stackAddr (s.S + 1)) { s with S := s.S + 1, phase := .faulted }) := by
  have ho : plain (pull >>= rest) s =
      .error (.addressError (stackAddr (s.S + 1))) { s with S := s.S + 1 } := by
    simp only [plain_apply, bind_apply, pull_unowned hun]
  obtain ⟨hop', hr⟩ := resolves_stack hop hstack s
  rw [hexec]
  exact execute_fault (operation := fun _ => plain (pull >>= rest)) hop' hr ho

end

/-- Settles O15: each of the four pulls and writes its own register. -/
theorem pullsLoadFromStack : Obligations.PullsLoadFromStack := by
  intro s
  refine ⟨fun hholds => ⟨s.byteAt (stackAddr (s.S + 1)), setNZ (s.byteAt (stackAddr (s.S + 1))) s.P, rfl,
    setNZ_setsNZ _ _, ?pla, ?plx, ?ply, ?plp⟩, fun hun i hi => ?unowned⟩
  case pla => exact exec_pull (rest := fun v => do setA v; updateNZ v) rfl rfl rfl hholds rfl
  case plx => exact exec_pull (rest := fun v => do setX v; updateNZ v) rfl rfl rfl hholds rfl
  case ply => exact exec_pull (rest := fun v => do setY v; updateNZ v) rfl rfl rfl hholds rfl
  case plp => exact exec_pull (rest := fun v => updateP fun _ => loadedP v) rfl rfl rfl hholds rfl
  case unowned =>
    simp only [List.mem_cons, List.not_mem_nil, or_false] at hi
    rcases hi with rfl | rfl | rfl | rfl
    · exact exec_pull_unowned (rest := fun v => do setA v; updateNZ v) rfl rfl rfl hun
    · exact exec_pull_unowned (rest := fun v => do setX v; updateNZ v) rfl rfl rfl hun
    · exact exec_pull_unowned (rest := fun v => do setY v; updateNZ v) rfl rfl rfl hun
    · exact exec_pull_unowned (rest := fun v => updateP fun _ => loadedP v) rfl rfl rfl hun

/-! ## Instructions that store at an address -/

/-- The shape of an operation that stores: P becomes `q`, the byte is written, and P is changed by `f`. -/
def storing (q : Byte) (a : Word) (v : Byte) (f : Byte → Byte) : Op Nat := do
  updateP fun _ => q
  busWrite a v
  updateP f
  pure 0

theorem storing_ok {q v : Byte} {a : Word} {f : Byte → Byte} {s t : State}
    (h : busWrite a v { s with P := q } = .ok () t) : storing q a v f s = .ok 0 { t with P := f t.P } := by
  simp only [storing, bind_apply, updateP_apply, h, pure_apply]

theorem storing_error {q v : Byte} {a : Word} {f : Byte → Byte} {s t : State} {e : BusError}
    (h : busWrite a v { s with P := q } = .error e t) : storing q a v f s = .error e t := by
  simp only [storing, bind_apply, updateP_apply, h]

/-- An instruction whose operation has the shape `storing` stores its byte, or faults with `q` in P (R1230). -/
theorem exec_storing {i : Instr} {operation : Resolved → Op Nat} {s s1 : State} {op : Byte} {r : Resolved} {a : Word}
    {v q : Byte} {f : Byte → Byte} (hinv : s.Inv) (hexec : exec i s = execute i operation s) (hres : Resolves i s op r s1)
    (ho : operation r s1 = storing q a v f s1) :
    StoresAt i s s1 a v (f q) (cost s.params op r.extra 0) ∧ StoreFaultsAt i s s1 a q := by
  obtain ⟨draws, log, rfl⟩ := resolve_devices hres.2
  have next : ∀ {t}, busWrite a v { s with P := q, draws := draws, deviceLog := log } = .ok () t →
      exec i s = .next { t with P := f t.P, countdown := cost t.params op r.extra 0 } := fun h =>
    exec_resolved hexec hres (ho.trans (storing_ok h))
  refine ⟨⟨fun hram => ?ram, fun d hd hk => ?external⟩, fun hro => ?readOnly⟩
  case ram =>
    exact ⟨_, next (busWrite_ram (s := { s with P := q, draws := draws, deviceLog := log }) hram), rfl,
      byteAt_of_write hinv rfl rfl⟩
  case external =>
    exact next (busWrite_external (s := { s with P := q, draws := draws, deviceLog := log }) hd hk)
  case readOnly =>
    have h := busWrite_readOnly (s := { s with P := q, draws := draws, deviceLog := log }) (v := v) hro
    exact hexec.trans (execute_fault hres.1 hres.2 (ho.trans (storing_error h)))

/-- Settles O12: each store is `storing` of its own register, with P as it is. -/
theorem storesWriteRegister : Obligations.StoresWriteRegister := by
  intro o s s1 op r hinv iv hiv hres
  have hmode : iv.1.operand.mode ∉ [.IMP, .STACK, .ACC, .REL] := by
    simp only [List.mem_cons, List.not_mem_nil, or_false] at hiv
    rcases hiv with rfl | rfl | rfl | rfl <;> exact mode_not_mem (wf_of_opcode hres.1) (by decide)
  obtain ⟨a, hloc⟩ := (resolve_shape hres.2).2.1 hmode
  refine ⟨a, hloc, ?_⟩
  have hstore : ∀ value : State → Byte, value s1 = iv.2 →
      storeValue value r s1 = storing s1.P a iv.2 id s1 := fun value hv => by
    rw [← hv, storeValue, hloc]
    rfl
  obtain ⟨draws, log, rfl⟩ := resolve_devices hres.2
  simp only [List.mem_cons, List.not_mem_nil, or_false] at hiv
  rcases hiv with rfl | rfl | rfl | rfl
  · exact exec_storing (f := id) hinv rfl hres (hstore _ rfl)
  · exact exec_storing (f := id) hinv rfl hres (hstore _ rfl)
  · exact exec_storing (f := id) hinv rfl hres (hstore _ rfl)
  · exact exec_storing (f := id) hinv rfl hres (hstore _ rfl)

/-- Settles O26: Z is written, then the byte. -/
theorem testAndResetOrSetBits : Obligations.TestAndResetOrSetBits := by
  intro o s s1 op r m hinv hm iv hiv hres
  have hbyte : r.byte = m := by simp only [Resolved.byte, hm, Option.getD_some]
  subst hbyte
  have hmode : iv.1.operand.mode ∉ [.IMP, .STACK, .ACC, .REL] := by
    simp only [List.mem_cons, List.not_mem_nil, or_false] at hiv
    rcases hiv with rfl | rfl <;> exact mode_not_mem (wf_of_opcode hres.1) (by decide)
  obtain ⟨a, hloc⟩ := (resolve_shape hres.2).2.1 hmode
  refine ⟨a, setZ (decide (s.A &&& r.byte = 0)) s.P, hloc, flagZ_setZ _ _, onlyFlags_putFlag _ rfl (by decide), ?_⟩
  have hwrite : ∀ f : Byte → Byte → Byte, testAndWrite f r s1 =
      storing (setZ (decide (s1.A &&& r.byte = 0)) s1.P) a (f s1.A r.byte) id s1 := fun f => by
    rw [testAndWrite, hloc]
    rfl
  obtain ⟨draws, log, rfl⟩ := resolve_devices hres.2
  simp only [List.mem_cons, List.not_mem_nil, or_false] at hiv
  rcases hiv with rfl | rfl
  · exact exec_storing (f := id) hinv rfl hres (hwrite _)
  · exact exec_storing (f := id) hinv rfl hres (hwrite _)

/-! ## Read-modify-write in place: memory or the accumulator -/

theorem mode_eq_acc {o : Operand} : o.mode = .ACC ↔ o = .acc := by
  cases o <;> simp [Operand.mode]

/-- The modes of an operation in place: the accumulator, or an address (R403, R404 to R408). -/
theorem resolve_in_place {o : Operand} {s s1 : State} {r : Resolved} (h : resolve o s = .ok r s1)
    (hmode : o.mode ∉ [.IMP, .STACK, .REL]) :
    r.m = some r.byte ∧ ((r.loc = .acc ∧ r.byte = s.A ∧ s1 = s) ∨ ∃ a, r.loc = .addr a) := by
  obtain ⟨hm, hloc, -⟩ := resolve_shape h
  simp only [List.mem_cons, List.not_mem_nil, or_false, not_or] at hmode hm hloc
  obtain ⟨himp, hstack, hrel⟩ := hmode
  refine ⟨hm ⟨himp, hstack⟩, ?_⟩
  by_cases hacc : o = .acc
  · subst hacc
    cases h
    exact .inl ⟨rfl, rfl, rfl⟩
  · exact .inr (hloc ⟨himp, hstack, fun e => hacc (mode_eq_acc.1 e), hrel⟩)

/-- A write and a change of P after it, as an operation without a cycle adjustment. -/
theorem plain_write_flags (a : Word) (v : Byte) (f : Byte → Byte) (s : State) :
    plain (do busWrite a v; updateP f) s = storing s.P a v f s := by
  have hstoring : storing s.P a v f s = (do busWrite a v; updateP f; pure 0 : Op Nat) s := rfl
  rw [hstoring]
  simp only [plain_apply, bind_apply]
  cases busWrite a v s <;> rfl

/-- INC and DEC store `f m` in place and N and Z say what it is (R715, R716). -/
theorem exec_stepInPlace {i : Instr} {f : Byte → Byte} {s s1 : State} {op : Byte} {r : Resolved} (hinv : s.Inv)
    (hexec : exec i s = execute i (stepInPlace f) s) (hres : Resolves i s op r s1)
    (hmode : i.operand.mode ∉ [.IMP, .STACK, .REL]) :
    r.m = some r.byte ∧
      ((r.loc = .acc ∧ r.byte = s.A ∧ exec i s = .next { s with
          A := f r.byte, P := setNZ (f r.byte) s.P, countdown := cost s.params op r.extra 0 }) ∨
        ∃ a, r.loc = .addr a ∧ StoresAt i s s1 a (f r.byte) (setNZ (f r.byte) s.P) (cost s.params op r.extra 0) ∧
          StoreFaultsAt i s s1 a s.P) := by
  obtain ⟨hm, ⟨hloc, hbyte, hs⟩ | ⟨a, hloc⟩⟩ := resolve_in_place hres.2 hmode
  · refine ⟨hm, .inl ⟨hloc, hbyte, ?_⟩⟩
    have ho : stepInPlace f r s1 = .ok 0 { s with A := f r.byte, P := setNZ (f r.byte) s.P } := by
      rw [stepInPlace, hloc, hs]
      rfl
    exact exec_resolved hexec hres ho
  · have ho : stepInPlace f r s1 = storing s1.P a (f r.byte) (setNZ (f r.byte)) s1 := by
      rw [stepInPlace, hloc]
      exact plain_write_flags a _ _ s1
    obtain ⟨draws, log, rfl⟩ := resolve_devices hres.2
    exact ⟨hm, .inr ⟨a, hloc, exec_storing hinv hexec hres ho⟩⟩

/-- Settles O22: the two are `stepInPlace` by 1 up or down, and a byte takes 255 more for 1 down. -/
theorem incrementAndDecrementInPlace : Obligations.IncrementAndDecrementInPlace := by
  intro o s s1 op r hinv x hx hres
  have hmode : x.1.operand.mode ∉ [.IMP, .STACK, .REL] := by
    simp only [List.mem_cons, List.not_mem_nil, or_false] at hx
    rcases hx with rfl | rfl <;> exact mode_not_mem (wf_of_opcode hres.1) (by decide)
  simp only [List.mem_cons, List.not_mem_nil, or_false] at hx
  rcases hx with rfl | rfl
  · obtain ⟨hm, hnext⟩ := exec_stepInPlace (f := (· + 1)) hinv rfl hres hmode
    exact ⟨r.byte, r.byte + 1, _, hm, byte_toNat_add_one r.byte, setNZ_setsNZ _ _, hnext⟩
  · obtain ⟨hm, hnext⟩ := exec_stepInPlace (f := (· - 1)) hinv rfl hres hmode
    exact ⟨r.byte, r.byte - 1, _, hm, byte_toNat_sub_one r.byte, setNZ_setsNZ _ _, hnext⟩

/-- A shift stores its result in place, and C, N and Z are what it says; C is written before the store (R901 to R904). -/
theorem exec_shiftInPlace {i : Instr} {f : Bool → Byte → Byte × Bool} {s s1 : State} {op : Byte} {r : Resolved} {n : Nat}
    {c : Bool} (hinv : s.Inv) (hexec : exec i s = execute i (shiftInPlace f) s) (hres : Resolves i s op r s1)
    (hmode : i.operand.mode ∉ [.IMP, .STACK, .REL]) (hn : (f (flagC s.P) r.byte).1.toNat = n)
    (hc : (f (flagC s.P) r.byte).2 = c) :
    ∃ v p q, v.toNat = n ∧ flagC p = c ∧ flagN p = v.getLsbD 7 ∧ flagZ p = decide (v = 0) ∧
      onlyFlags (maskN ||| maskZ ||| maskC) s.P p ∧ flagC q = c ∧ onlyFlags maskC s.P q ∧
      ((r.loc = .acc ∧ r.byte = s.A ∧
          exec i s = .next { s with A := v, P := p, countdown := cost s.params op r.extra 0 }) ∨
        ∃ a, r.loc = .addr a ∧ StoresAt i s s1 a v p (cost s.params op r.extra 0) ∧ StoreFaultsAt i s s1 a q) := by
  obtain ⟨-, hloc⟩ := resolve_in_place hres.2 hmode
  obtain ⟨draws, log, hs1⟩ := resolve_devices hres.2
  refine ⟨(f (flagC s.P) r.byte).1, setNZ (f (flagC s.P) r.byte).1 (setC c s.P), setC c s.P, hn, by simp, by simp, by simp,
    onlyFlags_setNZ _ (onlyFlags_putFlag _ rfl (by decide)) (by decide) (by decide), by simp,
    onlyFlags_putFlag _ rfl (by decide), ?_⟩
  rcases hloc with ⟨hloc, hbyte, hs⟩ | ⟨a, hloc⟩
  · refine .inl ⟨hloc, hbyte, ?_⟩
    have ho : shiftInPlace f r s1 = .ok 0 { s with
        A := (f (flagC s.P) r.byte).1, P := setNZ (f (flagC s.P) r.byte).1 (setC c s.P) } := by
      rw [shiftInPlace, hloc, hs, ← hc]
      rfl
    exact exec_resolved hexec hres ho
  · refine .inr ⟨a, hloc, ?_⟩
    have ho : shiftInPlace f r s1 =
        storing (setC c s.P) a (f (flagC s.P) r.byte).1 (setNZ (f (flagC s.P) r.byte).1) s1 := by
      rw [shiftInPlace, hloc, hs1, ← hc]
      exact plain_write_flags a _ _ { s with P := _, draws := draws, deviceLog := log }
    exact exec_storing hinv hexec hres ho

section
variable (m : Byte) (c : Bool)

theorem aslAlu_toNat : (aslAlu m).1.toNat = 2 * m.toNat % 256 := by
  revert m; decide

theorem lsrAlu_toNat : (lsrAlu m).1.toNat = m.toNat / 2 := by
  revert m; decide

theorem rolAlu_toNat : (rolAlu c m).1.toNat = (2 * m.toNat + carryIn c) % 256 := by
  revert m; cases c <;> decide

theorem rorAlu_toNat : (rorAlu c m).1.toNat = m.toNat / 2 + 128 * carryIn c := by
  revert m; cases c <;> decide

end

/-- Settles O29: the four are `shiftInPlace` of their own shifter. -/
theorem shiftsAndRotates : Obligations.ShiftsAndRotates := by
  intro o s s1 op r m hinv hm x hx hres
  have hbyte : r.byte = m := by simp only [Resolved.byte, hm, Option.getD_some]
  subst hbyte
  have hmode : x.1.operand.mode ∉ [.IMP, .STACK, .REL] := by
    simp only [List.mem_cons, List.not_mem_nil, or_false] at hx
    rcases hx with rfl | rfl | rfl | rfl <;> exact mode_not_mem (wf_of_opcode hres.1) (by decide)
  simp only [List.mem_cons, List.not_mem_nil, or_false] at hx
  rcases hx with rfl | rfl | rfl | rfl
  · exact exec_shiftInPlace (f := fun _ => aslAlu) hinv rfl hres hmode (aslAlu_toNat _) rfl
  · exact exec_shiftInPlace (f := fun _ => lsrAlu) hinv rfl hres hmode (lsrAlu_toNat _) rfl
  · exact exec_shiftInPlace (f := rolAlu) hinv rfl hres hmode (rolAlu_toNat _ _) rfl
  · exact exec_shiftInPlace (f := rorAlu) hinv rfl hres hmode (rorAlu_toNat _ _) rfl

/-! ## The bit operations -/

/-- The bit mask of R807 and R808. -/
theorem bitMask_getLsbD : ∀ n < 8, ∀ k < 8, (bitMask n).getLsbD k = decide (k = n) := by
  decide

/-- The answer of the zero-page mode (R404). -/
theorem resolve_zp {z : Byte} {s s1 : State} {r : Resolved} (h : resolve (.zp z) s = .ok r s1) :
    r.m = some r.byte ∧ r.loc = .addr (zext z) ∧ r.extra = false := by
  obtain ⟨s', u, h0, h⟩ := bind_ok h
  cases h0
  obtain ⟨hm, hloc, hextra, -⟩ := atAddress_shape h
  exact ⟨hm, hloc, hextra⟩

/-- Without a crossing and an adjustment the cost is the base cycles (R1304). -/
theorem cost_base (params : Params) (op : Byte) : cost params op false 0 = baseCycles params op := rfl

/-- An instruction on a zero-page byte that stores `f m` there and writes no flag (R807, R808). -/
theorem exec_zpStore {i : Instr} {f : Byte → Byte} {z : Byte} {s s1 : State} {op : Byte} {r : Resolved} (hinv : s.Inv)
    (hexec : exec i s = execute i (fun r => plain (store r.loc (f r.byte))) s) (hzp : i.operand = .zp z)
    (hres : Resolves i s op r s1) :
    r.m = some r.byte ∧ StoresAt i s s1 (zext z) (f r.byte) s.P (baseCycles s.params op) ∧
      StoreFaultsAt i s s1 (zext z) s.P := by
  have hr := hres.2
  rw [hzp] at hr
  obtain ⟨hm, hloc, hextra⟩ := resolve_zp hr
  have ho : plain (store r.loc (f r.byte)) s1 = storing s1.P (zext z) (f r.byte) id s1 := by
    rw [hloc]
    rfl
  obtain ⟨draws, log, rfl⟩ := resolve_devices hr
  rw [← cost_base, ← hextra]
  exact ⟨hm, exec_storing (operation := fun r => plain (store r.loc (f r.byte))) (f := id) hinv hexec hres ho⟩

/-- A bit operation stores the byte with bit `n` at `value` (R807, R808). -/
theorem exec_putBit {i : Instr} {f : Byte → Byte} {n : Nat} {value : Bool} {z : Byte} {s s1 : State} {op : Byte}
    {r : Resolved} (hinv : s.Inv) (hexec : exec i s = execute i (fun r => plain (store r.loc (f r.byte))) s)
    (hzp : i.operand = .zp z) (hres : Resolves i s op r s1)
    (hf : ∀ m, ∀ k < 8, (f m).getLsbD k = if k = n then value else m.getLsbD k) :
    ∃ m v, r.m = some m ∧ (∀ k < 8, v.getLsbD k = if k = n then value else m.getLsbD k) ∧
      StoresAt i s s1 (zext z) v s.P (baseCycles s.params op) ∧ StoreFaultsAt i s s1 (zext z) s.P := by
  obtain ⟨hm, hnext⟩ := exec_zpStore hinv hexec hzp hres
  exact ⟨r.byte, f r.byte, hm, hf r.byte, hnext⟩

theorem resetBit_getLsbD {n : Nat} (hn : n < 8) (m : Byte) :
    ∀ k < 8, (m &&& ~~~bitMask n).getLsbD k = if k = n then false else m.getLsbD k := by
  intro k hk
  rw [BitVec.getLsbD_and, BitVec.getLsbD_not, bitMask_getLsbD n hn k hk]
  by_cases h : k = n <;> simp [h, hk]

theorem setBit_getLsbD {n : Nat} (hn : n < 8) (m : Byte) :
    ∀ k < 8, (m ||| bitMask n).getLsbD k = if k = n then true else m.getLsbD k := by
  intro k hk
  rw [BitVec.getLsbD_or, bitMask_getLsbD n hn k hk]
  by_cases h : k = n <;> simp [h]

/-- Settles O27: each of the eight is `resetBit` of its own index. -/
theorem resetMemoryBit : Obligations.ResetMemoryBit := by
  intro z s s1 op r hinv x hx hres
  have put : ∀ n < 8, ∀ i, exec i s = execute i (resetBit n) s → i.operand = .zp z → Resolves i s op r s1 → _ :=
    fun n hn i hexec hzp hres => exec_putBit hinv hexec hzp hres (resetBit_getLsbD hn)
  simp only [List.mem_cons, List.not_mem_nil, or_false] at hx
  rcases hx with rfl | rfl | rfl | rfl | rfl | rfl | rfl | rfl <;> exact put _ (by simp) _ rfl rfl hres

/-- Settles O28: each of the eight is `setBit` of its own index. -/
theorem setMemoryBit : Obligations.SetMemoryBit := by
  intro z s s1 op r hinv x hx hres
  have put : ∀ n < 8, ∀ i, exec i s = execute i (setBit n) s → i.operand = .zp z → Resolves i s op r s1 → _ :=
    fun n hn i hexec hzp hres => exec_putBit hinv hexec hzp hres (setBit_getLsbD hn)
  simp only [List.mem_cons, List.not_mem_nil, or_false] at hx
  rcases hx with rfl | rfl | rfl | rfl | rfl | rfl | rfl | rfl <;> exact put _ (by simp) _ rfl rfl hres

end Sys2Proof.Machine
end

section
/-!
PROOFS. Branches and jumps (46_control.md R1000 to R1021) and the undefined opcodes (47_flags_system.md R1109): the
instructions that read an operand and write PC or `diag`.
-/

namespace Sys2Proof.Machine

/-! ## Branches -/

/-- The displacement of a branch, from its two's complement (R10). -/
theorem sext_toNat (d : Byte) : ((sext d).toNat : Int) = d.toInt % 65536 := by
  revert d; decide

theorem branchTarget_toNat (pc : Word) (d : Byte) :
    ((branchTarget pc d).toNat : Int) = (pc.toNat + d.toInt) % 65536 := by
  rw [branchTarget, BitVec.toNat_add, Int.natCast_emod, Nat.cast_add, sext_toNat]
  simp

/-- The cycles of a taken branch (R1002), with the page of an address as a number. -/
theorem branchCycles_eq (pc : Word) (d : Byte) :
    branchCycles pc d = if (branchTarget pc d).toNat / 256 = pc.toNat / 256 then 1 else 2 := by
  have hpage : hi (branchTarget pc d) ≠ hi pc ↔ ¬(branchTarget pc d).toNat / 256 = pc.toNat / 256 := by
    rw [Ne, ← BitVec.toNat_inj, hi_toNat, hi_toNat]
  simp only [branchCycles, hpage, ite_not]

theorem branch_taken {taken : Bool} (h : taken = true) (d : Byte) (s : State) :
    branch taken d s = .ok (branchCycles s.PC d) { s with PC := branchTarget s.PC d } := by
  simp [branch, h]

theorem branch_not_taken {taken : Bool} (h : taken = false) (d : Byte) (s : State) : branch taken d s = .ok 0 s := by
  simp [branch, h]

/-- A branch instruction (R1002): the target and the cycles when taken, the base cycles when not. -/
theorem exec_branch {i : Instr} {operation : Resolved → Op Nat} {s s1 : State} {op d : Byte} {r : Resolved}
    {taken : Bool} (hexec : exec i s = execute i operation s) (hres : Resolves i s op r s1) (hextra : r.extra = false)
    (ho : operation r s1 = branch taken d s1) :
    ∃ target : Word, (target.toNat : Int) = (s.PC.toNat + d.toInt) % 65536 ∧
      exec i s = .next (if taken then { s with
          PC := target
          countdown := baseCycles s.params op + (if target.toNat / 256 = s.PC.toNat / 256 then 1 else 2)
          draws := s1.draws
          deviceLog := s1.deviceLog }
        else { s with
          countdown := baseCycles s.params op
          draws := s1.draws
          deviceLog := s1.deviceLog }) := by
  refine ⟨branchTarget s.PC d, branchTarget_toNat s.PC d, ?_⟩
  obtain ⟨draws, log, rfl⟩ := resolve_devices hres.2
  cases ht : taken with
  | true =>
    have hnext := exec_resolved hexec hres (ho.trans (branch_taken ht d _))
    rw [branchCycles_eq, hextra] at hnext
    exact hnext
  | false =>
    have hnext := exec_resolved hexec hres (ho.trans (branch_not_taken ht d _))
    rw [hextra] at hnext
    exact hnext

/-- A branch on a flag (R1010 to R1018): the displacement is the operand (R414). -/
theorem exec_branchOnFlag {i : Instr} {taken : Byte → Bool} {s : State} {op d : Byte}
    (hexec : exec i s = execute i (branchOnFlag taken) s) (hop : i.opcode? = some op) (hrel : i.operand = .rel d) :
    ∃ target : Word, (target.toNat : Int) = (s.PC.toNat + d.toInt) % 65536 ∧
      exec i s = .next (if taken s.P then { s with
          PC := target
          countdown := baseCycles s.params op + (if target.toNat / 256 = s.PC.toNat / 256 then 1 else 2) }
        else { s with countdown := baseCycles s.params op }) := by
  have hres : Resolves i s op ⟨.none, some d, false, none⟩ s := ⟨hop, by rw [hrel]; rfl⟩
  exact exec_branch (taken := taken s.P) hexec hres rfl rfl

/-- Settles O30: each of the nine is `branchOnFlag` with its own condition. -/
theorem branchesOnFlags : Obligations.BranchesOnFlags := by
  intro d s x hx
  simp only [List.mem_cons, List.not_mem_nil, or_false] at hx
  rcases hx with rfl | rfl | rfl | rfl | rfl | rfl | rfl | rfl | rfl
  · exact exec_branchOnFlag (taken := fun p => !flagN p) rfl rfl rfl
  · exact exec_branchOnFlag (taken := flagN) rfl rfl rfl
  · exact exec_branchOnFlag (taken := fun p => !flagV p) rfl rfl rfl
  · exact exec_branchOnFlag (taken := flagV) rfl rfl rfl
  · exact exec_branchOnFlag (taken := fun p => !flagC p) rfl rfl rfl
  · exact exec_branchOnFlag (taken := flagC) rfl rfl rfl
  · exact exec_branchOnFlag (taken := fun p => !flagZ p) rfl rfl rfl
  · exact exec_branchOnFlag (taken := flagZ) rfl rfl rfl
  · exact exec_branchOnFlag (taken := fun _ => true) rfl rfl rfl

/-- The answer of the mode with a zero-page byte and a displacement (R417). -/
theorem resolve_zprel {z d : Byte} {s s1 : State} {r : Resolved} (h : resolve (.zprel z d) s = .ok r s1) :
    r.m = some r.byte ∧ r.extra = false ∧ r.displacement = d := by
  obtain ⟨s', u, h0, h⟩ := bind_ok h
  cases h0
  obtain ⟨hm, -, hextra, hdisp⟩ := atAddress_shape h
  exact ⟨hm, hextra, by rw [Resolved.displacement, hdisp]; rfl⟩

/-- Settles O31: each of the sixteen is `branchOnBit` with its own bit and value. -/
theorem branchesOnBits : Obligations.BranchesOnBits := by
  intro z d s s1 op r x hx hres
  have hzprel : x.1.operand = .zprel z d ∧ exec x.1 s = execute x.1 (branchOnBit x.2.1 x.2.2) s := by
    simp only [List.mem_cons, List.not_mem_nil, or_false] at hx
    rcases hx with rfl | rfl | rfl | rfl | rfl | rfl | rfl | rfl | rfl | rfl | rfl | rfl | rfl | rfl | rfl | rfl <;>
      exact ⟨rfl, rfl⟩
  obtain ⟨hoperand, hexec⟩ := hzprel
  have hr := hres.2
  rw [hoperand] at hr
  obtain ⟨hm, hextra, rfl⟩ := resolve_zprel hr
  obtain ⟨target, htarget, hnext⟩ := exec_branch (taken := r.byte.getLsbD x.2.1 == x.2.2) hexec hres hextra rfl
  simp only [beq_iff_eq] at hnext
  exact ⟨r.byte, target, hm, htarget, hnext⟩

/-! ## JMP and the undefined opcodes -/

/-- Settles O32: the modes of JMP answer an address and signal no crossing. -/
theorem jumpSetsPc : Obligations.JumpSetsPc := by
  intro o s s1 op r hres
  have hwf := wf_of_opcode hres.1
  obtain ⟨-, hloc, hextra⟩ := resolve_shape hres.2
  obtain ⟨a, hloc⟩ := hloc (mode_not_mem hwf (by decide))
  refine ⟨a, hloc, ?_⟩
  obtain ⟨draws, log, rfl⟩ := resolve_devices hres.2
  have ho : plain (jumpTo r.loc) { s with draws := draws, deviceLog := log } =
      .ok 0 { s with PC := a, draws := draws, deviceLog := log } := by
    rw [hloc]
    rfl
  have hnext := exec_resolved (operation := fun r => plain (jumpTo r.loc)) rfl hres ho
  rw [hextra (mode_not_mem hwf (by decide))] at hnext
  exact hnext

/-- The modes of the undefined opcodes signal no crossing (R311). -/
theorem undefMode_not_mem : ∀ op : Byte, ∀ m ∈ undefMode op, m ∉ [.ABSX, .ABSY, .INDY] := by
  decide +kernel

/-- Settles O38: the record is appended, and the bytes before PC are those of the opcode's own length. -/
theorem undefinedOpcodeRecords : Obligations.UndefinedOpcodeRecords := by
  intro b o s s1 op r hres
  have hwf : undefMode b = some o.mode := of_decide_eq_true (wf_of_opcode hres.1)
  have hop : op = b := by
    have h := hres.1
    simp only [Instr.opcode?, hwf, if_true, Option.some.injEq] at h
    exact h.symm
  subst hop
  have hlength : 1 + operandBytes o.mode = instrLength op := by
    rw [instrLength, (opcode_row hres.1).2]
    rfl
  have hextra := (resolve_shape hres.2).2.2 (undefMode_not_mem op o.mode hwf)
  obtain ⟨draws, log, rfl⟩ := resolve_devices hres.2
  have hnext := exec_resolved (operation := fun _ => plain do
    let s ← getState
    recordUnsupported op (s.PC - BitVec.ofNat 16 (1 + operandBytes o.mode))) rfl hres rfl
  rw [hextra, hlength] at hnext
  exact ⟨rfl, hnext⟩

end Sys2Proof.Machine
end

section
/-!
PROOFS. Subroutines and exceptions (46_control.md R1022, R1023; 47_flags_system.md R1110, R1111; 60_exceptions.md R1210 to
R1212). Over a stack page in RAM a push is `State.pushed` and the exception entry is `State.entered`, whose bytes are
known (`byteAt_pushed`); the returns pull those bytes back.
-/

namespace Sys2Proof.Machine

/-! ## A push on a RAM -/

/-- The state after a byte is pushed on a RAM (R230). -/
def State.pushed (s : State) (v : Byte) : State :=
  { s with S := s.S - 1, mem := Memory.write s.params.ramInit s.mem (stackAddr s.S).toNat v }

theorem push_pushed {s : State} (h : ramAt s (stackAddr s.S) = true) (v : Byte) : push v s = .ok () (s.pushed v) :=
  push_ram h

theorem stackAddr_inj {i j : Byte} : stackAddr i = stackAddr j ↔ i = j := by
  rw [← BitVec.toNat_inj, stackAddr_toNat, stackAddr_toNat, ← BitVec.toNat_inj]
  omega

/-- An address past the stack page is none of it. -/
theorem ne_stackAddr {a : Word} (h : 512 ≤ a.toNat) (i : Byte) : a ≠ stackAddr i := by
  rintro rfl
  have := i.isLt
  rw [stackAddr_toNat] at h
  omega

/-- The memory is in address order, the part of the canonical form that reading a written byte needs. -/
abbrev State.Sorted (s : State) : Prop := s.mem.Pairwise (fun c d => c.1 < d.1)

theorem pushed_sorted {s : State} (h : s.Sorted) (v : Byte) : (s.pushed v).Sorted := write_sorted h

/-- Every byte after a push. -/
theorem byteAt_pushed {s : State} (h : s.Sorted) (v : Byte) (a : Word) :
    (s.pushed v).byteAt a = if a = stackAddr s.S then v else s.byteAt a := by
  split
  · next ha =>
    subst ha
    exact read_write_self h
  · next ha => exact read_write_ne fun e => ha (BitVec.eq_of_toNat_eq e)

theorem byte_sub_one_one (x : Byte) : x - 1 - 1 = x - 2 := by bv_omega

theorem byte_sub_two_one (x : Byte) : x - 2 - 1 = x - 3 := by bv_omega

theorem byte_sub_ne (x : Byte) : x - 1 ≠ x ∧ x - 2 ≠ x ∧ x - 2 ≠ x - 1 := by
  refine ⟨?_, ?_, ?_⟩ <;> bv_omega

/-! ## JSR and RTS -/

/-- The state after JSR has pushed the return address (R1022). -/
def State.called (s : State) : State := (s.pushed (hi (s.PC - 1))).pushed (lo (s.PC - 1))

theorem called_eq (s : State) : s.called = { s with S := s.S - 2, mem := s.called.mem } := by
  rw [← byte_sub_one_one]
  rfl

/-- The return address on the stack, high byte first. -/
theorem called_bytes {s : State} (h : s.Sorted) :
    s.called.byteAt (stackAddr s.S) = hi (s.PC - 1) ∧ s.called.byteAt (stackAddr (s.S - 1)) = lo (s.PC - 1) ∧
    sameMemoryBut [stackAddr s.S, stackAddr (s.S - 1)] s s.called := by
  have hbyte : ∀ a, s.called.byteAt a = if a = stackAddr (s.S - 1) then lo (s.PC - 1)
      else if a = stackAddr s.S then hi (s.PC - 1) else s.byteAt a := fun a => by
    rw [State.called, byteAt_pushed (pushed_sorted h _), byteAt_pushed h]
    rfl
  obtain ⟨h1, -, -⟩ := byte_sub_ne s.S
  refine ⟨?_, ?_, fun a ha => ?_⟩
  · simp only [hbyte, stackAddr_inj, h1.symm, if_false, if_true]
  · simp only [hbyte, if_true]
  · simp only [List.mem_cons, List.not_mem_nil, or_false, not_or] at ha
    simp only [hbyte, ha.1, ha.2, if_false]

/-- The operation of JSR with its location (R1022). -/
def callTo (target : Word) : Op Nat := plain do
  let s ← getState
  push (hi (s.PC - 1))
  push (lo (s.PC - 1))
  setPC target

section
variable {s : State} {target : Word}

theorem callTo_ram (h0 : ramAt s (stackAddr s.S) = true) (h1 : ramAt s (stackAddr (s.S - 1)) = true) :
    callTo target s = .ok 0 { s.called with PC := target } := by
  have second := push_pushed (s := s.pushed (hi (s.PC - 1))) h1 (lo (s.PC - 1))
  simp only [callTo, plain_apply, bind_apply, getState_apply, push_pushed h0, second, setPC_apply]
  rfl

theorem callTo_first_error {e : BusError} (h : ∀ v, push v s = .error e s) : callTo target s = .error e s := by
  simp only [callTo, plain_apply, bind_apply, getState_apply, h]

theorem callTo_second_readOnly (h0 : ramAt s (stackAddr s.S) = true) (h1 : readOnlyAt s (stackAddr (s.S - 1)) = true) :
    callTo target s = .error (.writeProtectionError (stackAddr (s.S - 1))) (s.pushed (hi (s.PC - 1))) := by
  have second := push_error (busWrite_readOnly (s := s.pushed (hi (s.PC - 1))) (v := lo (s.PC - 1)) h1)
  simp only [callTo, plain_apply, bind_apply, getState_apply, push_pushed h0]
  rw [second]
  rfl

end

/-- What the resolver of JSR answers, and the operation it runs then. -/
theorem jsr_resolved {s s1 : State} {op : Byte} {r : Resolved} {target : Word} (hres : Resolves (.jsr target) s op r s1) :
    op = 0x20 ∧ r.extra = false ∧ ∃ operation, exec (.jsr target) s = execute (.jsr target) operation s ∧
      operation r s1 = callTo target s1 := by
  obtain ⟨hop, hr⟩ := hres
  cases hop
  obtain ⟨s', u, h0, hr⟩ := bind_ok hr
  cases h0
  obtain ⟨-, hloc, hextra, -⟩ := atAddress_shape hr
  refine ⟨rfl, hextra, _, rfl, ?_⟩
  show plain _ s1 = callTo target s1
  rw [hloc]
  rfl

/-- Settles O33: the two pushes, then the jump; a push that fails ends it. -/
theorem jsrPushesReturnAddress : Obligations.JsrPushesReturnAddress := by
  intro target s s1 op r hinv hres
  obtain ⟨⟨hsorted, -⟩, -⟩ := hinv
  obtain ⟨rfl, hextra, operation, hexec, ho⟩ := jsr_resolved hres
  obtain ⟨draws, log, rfl⟩ := resolve_devices hres.2
  have hsorted1 : State.Sorted { s with draws := draws, deviceLog := log } := hsorted
  refine ⟨fun h0 h1 => ?ram, fun h0 => ?first, fun h0 h1 => ?second⟩
  case ram =>
    have hnext := exec_resolved hexec hres (ho.trans (callTo_ram h0 h1))
    rw [hextra] at hnext
    refine ⟨_, hnext, ?_, called_bytes hsorted1⟩
    rw [called_eq]
    rfl
  case first =>
    have hfirst := callTo_first_error (target := target) fun v =>
      push_error (busWrite_readOnly (s := { s with draws := draws, deviceLog := log }) (v := v) h0)
    exact hexec.trans (execute_fault hres.1 hres.2 (ho.trans hfirst))
  case second =>
    refine ⟨_, hexec.trans (execute_fault hres.1 hres.2 (ho.trans (callTo_second_readOnly h0 h1))), rfl, ?_, fun a ha => ?_⟩
    · exact (byteAt_pushed hsorted1 _ _).trans (if_pos rfl)
    · exact (byteAt_pushed hsorted1 _ a).trans (if_neg (by simpa using ha))

theorem byte_add_one_one (x : Byte) : x + 1 + 1 = x + 2 := by bv_omega

theorem byte_add_two_one (x : Byte) : x + 2 + 1 = x + 3 := by bv_omega

/-- RTS after it has pulled the low byte (R1023). -/
def returnPast (l : Byte) : Op Unit := do
  let h ← pull
  setPC (word h l + 1)

/-- RTS when RAM or ROM holds both bytes (R1023). -/
theorem exec_rts {s : State} (h1 : holdsBytes s.devices (stackAddr (s.S + 1)) = true)
    (h2 : holdsBytes s.devices (stackAddr (s.S + 2)) = true) :
    exec .rts s = .next { s with
      PC := word (s.byteAt (stackAddr (s.S + 2))) (s.byteAt (stackAddr (s.S + 1))) + 1
      S := s.S + 2
      countdown := baseCycles s.params 0x60 } := by
  rw [← byte_add_one_one] at h2 ⊢
  have second := pull_holds (s := { s with S := s.S + 1 }) h2
  have hrest : returnPast (s.byteAt (stackAddr (s.S + 1))) { s with S := s.S + 1 } = .ok () { s with
      PC := word (s.byteAt (stackAddr (s.S + 1 + 1))) (s.byteAt (stackAddr (s.S + 1))) + 1
      S := s.S + 1 + 1 } := by
    simp only [returnPast, bind_apply, second, setPC_apply]
    rfl
  exact exec_pull (i := .rts) (rest := returnPast) rfl rfl rfl h1 hrest

/-- Settles O34: two pulls, then the jump past the address. -/
theorem rtsReturnsPastAddress : Obligations.RtsReturnsPastAddress := by
  intro s
  refine ⟨fun h1 h2 => ⟨_, ?_, exec_rts h1 h2⟩, exec_pull_unowned (i := .rts) (rest := returnPast) rfl rfl rfl⟩
  rw [BitVec.toNat_add, word_toNat]
  rfl

/-- An instruction that completes has resolved its operand. -/
theorem exec_next_resolves {i : Instr} {s t : State} (h : exec i s = .next t) : ∃ op r s1, Resolves i s op r s1 := by
  obtain ⟨operation, hexec⟩ := exec_eq_execute i
  rw [hexec] at h
  obtain ⟨op, r, s1, -, -, hop, hr, -, -⟩ := execute_next_inv h
  exact ⟨op, r, s1, hop, hr⟩

/-- A stack page in RAM is one at every address of it. -/
theorem stackRam_congr {s t : State} (h : t.devices = s.devices) (hs : stackRam s) : stackRam t := fun i =>
  (ramAt_congr h _).trans (hs i)

/-- Settles O35: RTS pulls the two bytes JSR has pushed. -/
theorem rtsUndoesJsr : Obligations.RtsUndoesJsr := by
  intro target s t u hinv hstack ht hu
  obtain ⟨op, r, s1, hres⟩ := exec_next_resolves ht
  obtain ⟨hram, -, -⟩ := jsrPushesReturnAddress target s s1 op r hinv hres
  obtain ⟨t', ht', hframe, hhi, hlo, -⟩ := hram (hstack _) (hstack _)
  have hsame : t = t' := by
    rw [ht] at ht'
    exact Host.Outcome.next.inj ht'
  subst hsame
  have hS : t.S = s.S - 2 := by rw [hframe]
  have hS1 : t.S + 1 = s.S - 1 := by rw [hS]; bv_omega
  have hS2 : t.S + 2 = s.S := by rw [hS]; bv_omega
  have hold : ∀ i, holdsBytes t.devices (stackAddr i) = true := fun i =>
    ramAt_holdsBytes (s := t) (stackRam_congr (by rw [hframe]) hstack i)
  rw [exec_rts (hold _) (hold _), hS1, hS2, hhi, hlo, word_hi_lo] at hu
  cases hu
  refine ⟨?_, rfl, ?_, ?_, ?_, ?_⟩
  · show s.PC - 1 + 1 = s.PC
    exact BitVec.sub_add_cancel _ _
  all_goals
    show _ = _
    rw [hframe]

end Sys2Proof.Machine
end

section
/-!
PROOFS. Exceptions (47_flags_system.md R1110, R1111; 60_exceptions.md R1210 to R1212). Over a stack page in RAM the entry
leaves `State.entered` and then reads the vector (`enterException_ram`); BRK, irq() and nmi() are that entry, and RTI pulls
its three bytes back.
-/

namespace Sys2Proof.Machine

/-! ## The entry -/

/-- The state after the exception entry has pushed PC and the image of P, and set I and cleared D (R1110, R1212). -/
def State.entered (image : Byte → Byte) (s : State) : State :=
  { ((s.pushed (hi s.PC)).pushed (lo s.PC)).pushed (image s.P) with P := setD false (setI true s.P) }

theorem entered_eq (image : Byte → Byte) (s : State) : s.entered image =
    { s with S := s.S - 3, P := setD false (setI true s.P), mem := (s.entered image).mem } := by
  rw [← byte_sub_two_one, ← byte_sub_one_one]
  rfl

section
variable {s : State} {image : Byte → Byte}

/-- The three bytes on the stack. -/
theorem entered_bytes (h : s.Sorted) :
    (s.entered image).byteAt (stackAddr s.S) = hi s.PC ∧ (s.entered image).byteAt (stackAddr (s.S - 1)) = lo s.PC ∧
    (s.entered image).byteAt (stackAddr (s.S - 2)) = image s.P ∧
    sameMemoryBut [stackAddr s.S, stackAddr (s.S - 1), stackAddr (s.S - 2)] s (s.entered image) := by
  have hbyte : ∀ a, (s.entered image).byteAt a = if a = stackAddr (s.S - 2) then image s.P
      else if a = stackAddr (s.S - 1) then lo s.PC else if a = stackAddr s.S then hi s.PC else s.byteAt a := fun a => by
    have h3 := byteAt_pushed (pushed_sorted (pushed_sorted h (hi s.PC)) (lo s.PC)) (image s.P) a
    rw [byteAt_pushed (pushed_sorted h _), byteAt_pushed h] at h3
    rw [← byte_sub_one_one]
    exact h3
  obtain ⟨h1, h2, h3⟩ := byte_sub_ne s.S
  refine ⟨?_, ?_, ?_, fun a ha => ?_⟩
  · simp only [hbyte, stackAddr_inj, h1.symm, h2.symm, if_false, if_true]
  · simp only [hbyte, stackAddr_inj, h3.symm, if_false, if_true]
  · simp only [hbyte, if_true]
  · simp only [List.mem_cons, List.not_mem_nil, or_false, not_or] at ha
    obtain ⟨ha1, ha2, ha3⟩ := ha
    simp only [hbyte, ha1, ha2, ha3, if_false]

theorem entered_flags : flagI (s.entered image).P = true ∧ flagD (s.entered image).P = false ∧
    onlyFlags (maskI ||| maskD) s.P (s.entered image).P := by
  refine ⟨?_, ?_, onlyFlags_putFlag _ (onlyFlags_putFlag _ rfl (by decide)) (by decide)⟩ <;> simp [State.entered]

/-- The entry keeps the bytes past the stack page, the vectors among them. -/
theorem entered_byteAt (h : s.Sorted) {a : Word} (ha : 512 ≤ a.toNat) : (s.entered image).byteAt a = s.byteAt a :=
  (entered_bytes h).2.2.2 a (by simp [ne_stackAddr ha])

/-- Over a stack page in RAM the entry pushes, sets the flags and jumps through the vector (R1110, R1212). -/
theorem enterException_ram (hstack : stackRam s) (vector : Word) :
    enterException vector image s = (read16 vector >>= setPC) (s.entered image) := by
  have second := push_pushed (s := s.pushed (hi s.PC)) (hstack (s.S - 1)) (lo s.PC)
  have third := push_pushed (s := (s.pushed (hi s.PC)).pushed (lo s.PC)) (hstack (s.S - 1 - 1)) (image s.P)
  simp only [enterException, bind_apply, getState_apply, push_pushed (hstack s.S), second, third, updateP_apply]
  rfl

theorem enterException_holds (hsorted : s.Sorted) (hstack : stackRam s) {vector : Word} (hv : 512 ≤ vector.toNat)
    (hv1 : 512 ≤ (vector + 1).toNat) (h0 : holdsBytes s.devices vector = true)
    (h1 : holdsBytes s.devices (vector + 1) = true) :
    enterException vector image s =
      .ok () { s.entered image with PC := word (s.byteAt (vector + 1)) (s.byteAt vector) } := by
  rw [enterException_ram hstack, bind_apply, read16_holds (s := s.entered image) h0 h1, entered_byteAt hsorted hv,
    entered_byteAt hsorted hv1]
  rfl

theorem enterException_vector_unowned (hstack : stackRam s) {vector : Word} (h : readableAt s vector = false) :
    enterException vector image s = .error (.addressError vector) (s.entered image) := by
  rw [enterException_ram hstack, bind_apply, read16, bind_apply, busRead_unowned (s := s.entered image) h]

/-- What an entry that completes has done over a stack page in RAM, whatever answers the vector. -/
theorem enterException_ok (hstack : stackRam s) {vector : Word} {t : State}
    (h : enterException vector image s = .ok () t) : ∃ target draws log,
      t = { s.entered image with PC := target, draws := draws, deviceLog := log } := by
  rw [enterException_ram hstack] at h
  obtain ⟨target, u, hread, hset⟩ := bind_ok h
  cases hset
  exact ⟨target, u.draws, u.deviceLog, by rw [read16_frame hread]⟩

/-- A push that fails ends the entry with nothing changed. -/
theorem enterException_readOnly (h : readOnlyAt s (stackAddr s.S) = true) (vector : Word) :
    enterException vector image s = .error (.writeProtectionError (stackAddr s.S)) s := by
  simp only [enterException, bind_apply, getState_apply, push_error (busWrite_readOnly (v := hi s.PC) h)]

end

/-! ## BRK -/

/-- The operation of BRK (R1110). -/
def breakOp : Op Unit := do
  let s ← getState
  setPC (s.PC + 1)
  enterException vectorIrq imageSw

theorem breakOp_apply (s : State) : breakOp s = enterException vectorIrq imageSw { s with PC := s.PC + 1 } := rfl

theorem exec_brk_next {s t : State} (h : enterException vectorIrq imageSw { s with PC := s.PC + 1 } = .ok () t) :
    exec .brk s = .next { t with countdown := baseCycles t.params 0x00 } :=
  exec_resolved (i := .brk) (operation := fun _ => plain breakOp) rfl (resolves_stack rfl rfl s)
    (by rw [plain_apply, breakOp_apply, h])

theorem exec_brk_fault {s t : State} {e : BusError}
    (h : enterException vectorIrq imageSw { s with PC := s.PC + 1 } = .error e t) :
    exec .brk s = .fault (e.fault t) :=
  execute_fault (i := .brk) (operation := fun _ => plain breakOp) rfl (resolves_stack (i := .brk) rfl rfl s).2
    (by rw [plain_apply, breakOp_apply, h])

/-- Settles O39: BRK is the entry from PC past its padding byte. -/
theorem brkTakesException : Obligations.BrkTakesException := by
  intro s hinv
  obtain ⟨⟨hsorted, -⟩, -⟩ := hinv
  have hsorted1 : State.Sorted { s with PC := s.PC + 1 } := hsorted
  obtain ⟨hhi, hlo, himage, hother⟩ := entered_bytes (image := imageSw) hsorted1
  obtain ⟨hI, hD, honly⟩ := entered_flags (s := { s with PC := s.PC + 1 }) (image := imageSw)
  rw [imageSw_eq] at himage
  refine ⟨fun hstack h0 h1 => ?taken, fun hro => ?readOnly, fun hstack hun => ?vector⟩
  case taken =>
    have henter := enterException_holds (image := imageSw) hsorted1 hstack (vector := vectorIrq) (by decide) (by decide)
      h0 h1
    refine ⟨_, exec_brk_next henter, ?_, hI, hD, honly, hhi, hlo, himage, hother⟩
    rw [entered_eq]
    rfl
  case readOnly => exact exec_brk_fault (enterException_readOnly (s := { s with PC := s.PC + 1 }) hro vectorIrq)
  case vector =>
    have henter := enterException_vector_unowned (s := { s with PC := s.PC + 1 }) (image := imageSw) hstack
      (vector := vectorIrq) hun
    refine ⟨_, exec_brk_fault henter, ?_, hI, hD, honly, hhi, hlo, himage, hother⟩
    rw [entered_eq]

/-! ## RTI -/

/-- RTI after it has pulled P (R1111). -/
def returnAfterStatus (p : Byte) : Op Unit := do
  updateP fun _ => loadedP p
  let l ← pull
  let h ← pull
  setPC (word h l)

/-- RTI when RAM or ROM holds the three bytes (R1111). -/
theorem exec_rti {s : State} (h1 : holdsBytes s.devices (stackAddr (s.S + 1)) = true)
    (h2 : holdsBytes s.devices (stackAddr (s.S + 2)) = true) (h3 : holdsBytes s.devices (stackAddr (s.S + 3)) = true) :
    exec .rti s = .next { s with
      P := s.byteAt (stackAddr (s.S + 1)) ||| 0x20
      PC := word (s.byteAt (stackAddr (s.S + 3))) (s.byteAt (stackAddr (s.S + 2)))
      S := s.S + 3
      countdown := baseCycles s.params 0x40 } := by
  rw [← byte_add_two_one, ← byte_add_one_one] at h3 ⊢
  rw [← byte_add_one_one] at h2
  have second := pull_holds (s := { s with S := s.S + 1, P := loadedP (s.byteAt (stackAddr (s.S + 1))) }) h2
  have third := pull_holds (s := { s with S := s.S + 1 + 1, P := loadedP (s.byteAt (stackAddr (s.S + 1))) }) h3
  have hrest : returnAfterStatus (s.byteAt (stackAddr (s.S + 1))) { s with S := s.S + 1 } = .ok () { s with
      P := loadedP (s.byteAt (stackAddr (s.S + 1)))
      PC := word (s.byteAt (stackAddr (s.S + 1 + 1 + 1))) (s.byteAt (stackAddr (s.S + 1 + 1)))
      S := s.S + 1 + 1 + 1 } := by
    simp only [returnAfterStatus, bind_apply, updateP_apply, second, third, setPC_apply]
    rfl
  exact exec_pull (i := .rti) (rest := returnAfterStatus) rfl rfl rfl h1 hrest

/-- Settles O40: three pulls. -/
theorem rtiRestoresStatusAndPc : Obligations.RtiRestoresStatusAndPc := by
  intro s
  refine ⟨fun h => exec_rti (h 1 (by decide)) (h 2 (by decide)) (h 3 (by decide)),
    exec_pull_unowned (i := .rti) (rest := returnAfterStatus) rfl rfl rfl⟩

/-- RTI from a state whose stack is that of an entry from `s`: what was interrupted, and the image of P with U set. -/
theorem exec_rti_entered {s t u : State} {image : Byte → Byte} (hsorted : s.Sorted) (hstack : stackRam s)
    (ht : t = { s.entered image with
      PC := t.PC, waiting := t.waiting, countdown := t.countdown, draws := t.draws, deviceLog := t.deviceLog })
    (hu : exec .rti t = .next u) :
    u.PC = s.PC ∧ u.S = s.S ∧ u.P = image s.P ||| 0x20 ∧ u.A = s.A ∧ u.X = s.X ∧ u.Y = s.Y := by
  obtain ⟨hhi, hlo, himage, -⟩ := entered_bytes (image := image) hsorted
  have hS : t.S = s.S - 3 := by rw [ht, entered_eq]
  have hS1 : t.S + 1 = s.S - 2 := by rw [hS]; bv_omega
  have hS2 : t.S + 2 = s.S - 1 := by rw [hS]; bv_omega
  have hS3 : t.S + 3 = s.S := by rw [hS]; bv_omega
  have hbytes : ∀ a, t.byteAt a = (s.entered image).byteAt a := fun a =>
    byteAt_congr (by rw [ht]) (by rw [ht]) a
  have hold : ∀ i, holdsBytes t.devices (stackAddr i) = true := fun i =>
    ramAt_holdsBytes (s := t) (stackRam_congr (by rw [ht, entered_eq]) hstack i)
  rw [exec_rti (hold _) (hold _) (hold _), hS1, hS2, hS3, hbytes, hbytes, hbytes, hhi, hlo, himage, word_hi_lo] at hu
  cases hu
  refine ⟨rfl, rfl, rfl, ?_, ?_, ?_⟩ <;>
  · show _ = _
    rw [ht, entered_eq]

/-! ## irq() and nmi() -/

theorem imageHw_eq (p : Byte) : imageHw p = (p ||| 0x20) &&& 0xEF := rfl

/-- An interrupt that is taken, over a stack page in RAM: what the entry leaves, and its cycles added (R1212). -/
theorem interrupt_taken {s t : State} {vector : Word} (h : enterException vector imageHw s = .ok () t) :
    outcomeOf (enterInterrupt vector) s = .next { t with countdown := t.countdown + t.params.interruptCycles } := by
  simp only [outcomeOf, enterInterrupt, bind_apply, h, update_apply]

theorem interrupt_next {s t : State} {vector : Word} (h : outcomeOf (enterInterrupt vector) s = .next t) :
    ∃ u, enterException vector imageHw s = .ok () u ∧
      t = { u with countdown := u.countdown + u.params.interruptCycles } := by
  unfold outcomeOf at h
  split at h
  · next hx =>
    obtain ⟨_, u, henter, hupdate⟩ := bind_ok hx
    cases hupdate
    cases h
    exact ⟨u, henter, rfl⟩
  · cases h

section
variable {s : State} (hp : s.phase = .running)
include hp

theorem whenRunning_running {σ : Type} (call : State → Host.Outcome σ Fault Refusal) : whenRunning call s = call s := by
  simp only [whenRunning, hp, refusalOf]

theorem irq_stopped (h : s.stopped = true) : irq s = .next s := by
  simp only [irq, whenRunning_running hp, irqRunning, h, if_true]

theorem nmi_stopped (h : s.stopped = true) : nmi s = .next s := by
  simp only [nmi, whenRunning_running hp, nmiRunning, h, if_true]

variable (hs : s.stopped = false)
include hs

theorem irq_masked (h : flagI s.P = true) : irq s = .next { s with waiting := false } := by
  simp only [irq, whenRunning_running hp, irqRunning, hs, h, Bool.false_eq_true, if_false, if_true]

theorem irq_taken (h : flagI s.P = false) :
    irq s = outcomeOf (enterInterrupt vectorIrq) { s with waiting := false } := by
  simp only [irq, whenRunning_running hp, irqRunning, hs, h, Bool.false_eq_true, if_false]

theorem nmi_taken : nmi s = outcomeOf (enterInterrupt vectorNmi) { s with waiting := false } := by
  simp only [nmi, whenRunning_running hp, nmiRunning, hs, Bool.false_eq_true, if_false]

end

/-- The entry of an interrupt from a state with the stack page in RAM and the vector in RAM or ROM. -/
theorem interrupt_entry {s : State} (hsorted : s.Sorted) (hstack : stackRam s) {vector : Word}
    (hv : 512 ≤ vector.toNat) (hv1 : 512 ≤ (vector + 1).toNat) (h0 : holdsBytes s.devices vector = true)
    (h1 : holdsBytes s.devices (vector + 1) = true) :
    ∃ t, outcomeOf (enterInterrupt vector) { s with waiting := false } = .next t ∧
      t = { s with
        PC := word (s.byteAt (vector + 1)) (s.byteAt vector)
        S := s.S - 3
        P := t.P
        mem := t.mem
        waiting := false
        countdown := s.countdown + s.params.interruptCycles } ∧
      flagI t.P = true ∧ flagD t.P = false ∧ onlyFlags (maskI ||| maskD) s.P t.P ∧
      t.byteAt (stackAddr s.S) = hi s.PC ∧ t.byteAt (stackAddr (s.S - 1)) = lo s.PC ∧
      t.byteAt (stackAddr (s.S - 2)) = (s.P ||| 0x20) &&& 0xEF ∧
      sameMemoryBut [stackAddr s.S, stackAddr (s.S - 1), stackAddr (s.S - 2)] s t := by
  have hsorted1 : State.Sorted { s with waiting := false } := hsorted
  obtain ⟨hhi, hlo, himage, hother⟩ := entered_bytes (image := imageHw) hsorted1
  obtain ⟨hI, hD, honly⟩ := entered_flags (s := { s with waiting := false }) (image := imageHw)
  rw [imageHw_eq] at himage
  have henter := enterException_holds (image := imageHw) hsorted1 hstack hv hv1 h0 h1
  refine ⟨_, interrupt_taken henter, ?_, hI, hD, honly, hhi, hlo, himage, hother⟩
  rw [entered_eq]
  rfl

/-- Settles O47: the three branches of the calls, and the entry. -/
theorem interruptCalls : Obligations.InterruptCalls := by
  intro s hinv hp
  obtain ⟨⟨hsorted, -⟩, -⟩ := hinv
  refine ⟨fun h => ⟨irq_stopped hp h, nmi_stopped hp h⟩, irq_masked hp, fun hs hstack x hx => ?taken⟩
  simp only [List.mem_cons, List.not_mem_nil, or_false] at hx
  rcases hx with rfl | rfl
  · intro hI h0 h1
    dsimp only at hI h0 h1 ⊢
    rw [irq_taken hp hs hI]
    exact interrupt_entry hsorted hstack (by decide) (by decide) h0 h1
  · intro _ h0 h1
    dsimp only at h0 h1 ⊢
    rw [nmi_taken hp hs]
    exact interrupt_entry hsorted hstack (by decide) (by decide) h0 h1

theorem brk_entered {s t : State} (hstack : stackRam s) (h : exec .brk s = .next t) :
    t = { State.entered imageSw { s with PC := s.PC + 1 } with
      PC := t.PC, waiting := t.waiting, countdown := t.countdown, draws := t.draws, deviceLog := t.deviceLog } := by
  have hbrk : execute .brk (fun _ => plain breakOp) s = .next t := h
  obtain ⟨op, r, s1, adj, u, -, hr, ho, rfl⟩ := execute_next_inv hbrk
  cases hr
  rw [plain_apply, breakOp_apply] at ho
  split at ho
  · next henter =>
    cases ho
    obtain ⟨target, draws, log, rfl⟩ := enterException_ok (s := { s with PC := s.PC + 1 }) hstack henter
    rfl
  · cases ho

theorem interrupt_entered {s t : State} {vector : Word} (hstack : stackRam s)
    (h : outcomeOf (enterInterrupt vector) { s with waiting := false } = .next t) :
    t = { State.entered imageHw s with
      PC := t.PC, waiting := t.waiting, countdown := t.countdown, draws := t.draws, deviceLog := t.deviceLog } := by
  obtain ⟨u, henter, rfl⟩ := interrupt_next h
  obtain ⟨target, draws, log, rfl⟩ := enterException_ok (s := { s with waiting := false }) hstack henter
  rfl

/-- Settles O41: each of the three leaves the stack of the entry, from which RTI pulls. -/
theorem rtiUndoesExceptionEntry : Obligations.RtiUndoesExceptionEntry := by
  intro s t u hinv hstack hu
  obtain ⟨⟨hsorted, -⟩, -⟩ := hinv
  refine ⟨fun hbrk => ?brk, fun hp hs hcall => ?interrupt⟩
  case brk =>
    obtain ⟨hPC, hS, hP, hregs⟩ :=
      exec_rti_entered (s := { s with PC := s.PC + 1 }) hsorted hstack (brk_entered hstack hbrk) hu
    refine ⟨hPC, hS, hP.trans ?_, hregs⟩
    rw [imageSw_eq, BitVec.or_assoc]
    rfl
  case interrupt =>
    have hentered : outcomeOf (enterInterrupt vectorNmi) { s with waiting := false } = .next t ∨
        outcomeOf (enterInterrupt vectorIrq) { s with waiting := false } = .next t := by
      rcases hcall with h | ⟨hI, h⟩
      · exact .inl ((nmi_taken hp hs).symm.trans h)
      · exact .inr ((irq_taken hp hs hI).symm.trans h)
    have ht := hentered.elim (interrupt_entered hstack) (interrupt_entered hstack)
    obtain ⟨hPC, hS, hP, hregs⟩ := exec_rti_entered hsorted hstack ht hu
    refine ⟨hPC, hS, hP.trans ?_, hregs⟩
    have hU : ∀ p : Byte, imageHw p ||| 0x20 = (p ||| 0x20) &&& 0xEF := by decide
    exact hU s.P

end Sys2Proof.Machine
end

section
/-!
PROOFS. The resolver over RAM and ROM, and over addresses no device owns (40_addressing_modes.md R400 to R422). Each mode's
reads are `atAddress`, after `readPointer` in the pointer modes; an answer and a fault of the resolver are those of these
two.
-/

namespace Sys2Proof.Machine

/-! ## The modes as reads -/

section
variable {s : State}

/-- The pointer of a pointer mode: the address of its low byte, and of its high byte (R411 to R413, R415, R416). -/
theorem resolve_ind (p : Word) : resolve (.ind p) s =
    (readPointer p (ptrhi p (jmpWrap s.params)) >>= fun loc => atAddress loc false none) s := rfl

theorem resolve_indx (z : Byte) : resolve (.indx z) s =
    (readPointer (zext (z + s.X)) (ptrhi (zext (z + s.X)) s.params.zeroPageBug) >>= fun loc =>
      atAddress loc false none) s := rfl

theorem resolve_indy (z : Byte) : resolve (.indy z) s =
    (readPointer (zext z) (ptrhi (zext z) s.params.zeroPageBug) >>= fun base => indexed base s.Y) s := rfl

theorem resolve_zpind (z : Byte) : resolve (.zpind z) s =
    (readPointer (zext z) (ptrhi (zext z) s.params.zeroPageBug) >>= fun loc => atAddress loc false none) s := rfl

theorem resolve_absindx (w : Word) : resolve (.absindx w) s =
    (readPointer (w + zext s.X) (w + zext s.X + 1) >>= fun loc => atAddress loc false none) s := rfl

/-! ## Over RAM and ROM -/

theorem atAddress_holds {a : Word} (h : holdsBytes s.devices a = true) (extra : Bool) (disp : Option Byte) :
    atAddress a extra disp s = .ok ⟨.addr a, some (s.byteAt a), extra, disp⟩ s := by
  simp only [atAddress, bind_apply, busRead_holds h, pure_apply]

theorem readPointer_holds {l h : Word} (hl : holdsBytes s.devices l = true) (hh : holdsBytes s.devices h = true) :
    readPointer l h s = .ok (word (s.byteAt h) (s.byteAt l)) s := by
  simp only [readPointer, bind_apply, busRead_holds hl, busRead_holds hh, pure_apply]

/-- A pointer mode without an index, over RAM and ROM. -/
theorem pointer_holds (hall : ∀ a, holdsBytes s.devices a = true) (l h : Word) :
    (readPointer l h >>= fun loc => atAddress loc false none) s =
      .ok ⟨.addr (word (s.byteAt h) (s.byteAt l)), some (s.byteAt (word (s.byteAt h) (s.byteAt l))), false, none⟩ s := by
  rw [bind_apply, readPointer_holds (hall l) (hall h)]
  exact atAddress_holds (hall _) false none

end

/-! ## Addresses as numbers -/

theorem zext_toNat (z : Byte) : (zext z).toNat = z.toNat := by
  have := z.isLt
  simp only [zext, BitVec.toNat_setWidth]
  omega

theorem zext_add_toNat (x y : Byte) : (zext (x + y)).toNat = (x.toNat + y.toNat) % 256 := by
  rw [zext_toNat, BitVec.toNat_add]

theorem add_zext_toNat (w : Word) (x : Byte) : (w + zext x).toNat = (w.toNat + x.toNat) % 65536 := by
  rw [BitVec.toNat_add, zext_toNat]

theorem pageMask_getLsbD : ∀ i < 16, (0xFF00#16).getLsbD i = decide (8 ≤ i) := by
  decide

/-- The page of one address with the low byte of another. -/
theorem page_or_zext (p : Word) (b : Byte) : (p &&& 0xFF00#16) ||| zext b = word (hi p) b := by
  apply BitVec.eq_of_getLsbD_eq
  intro i hi16
  rw [BitVec.getLsbD_or, BitVec.getLsbD_and, pageMask_getLsbD i hi16]
  simp only [zext, word, hi, BitVec.getLsbD_setWidth, BitVec.getLsbD_append, BitVec.getLsbD_extractLsb']
  by_cases h : i < 8
  · simp [h, hi16]
  · simp [h, hi16, show i - 8 < 8 by omega, show 8 + (i - 8) = i by omega, show 8 ≤ i by omega]

/-- The address of a pointer's high byte (R420). -/
theorem ptrhi_toNat (p : Word) (wrap : Bool) : (ptrhi p wrap).toNat =
    if wrap then p.toNat / 256 * 256 + (p.toNat + 1) % 256 else (p.toNat + 1) % 65536 := by
  cases wrap with
  | true =>
    simp only [ptrhi, if_true, page_or_zext, word_toNat, hi_toNat, BitVec.toNat_add, lo_toNat]
    simp
  | false => simp [ptrhi]

/-- In the zero page (R420). -/
theorem ptrhi_zext_toNat (z : Byte) (wrap : Bool) : (ptrhi (zext z) wrap).toNat =
    if wrap then (z.toNat + 1) % 256 else z.toNat + 1 := by
  have := z.isLt
  rw [ptrhi_toNat, zext_toNat]
  cases wrap with
  | true => simp only [if_true]; omega
  | false => simp only [Bool.false_eq_true, if_false]; omega

/-- The crossing signal of an indexed mode (R401), with pages as numbers. -/
theorem crossing_iff (base loc : Word) :
    decide (hi base ≠ hi loc) = true ↔ loc.toNat / 256 ≠ base.toNat / 256 := by
  rw [decide_eq_true_eq, Ne, ← BitVec.toNat_inj, hi_toNat, hi_toNat]
  exact not_congr eq_comm

/-- The mode with a pointer and an index, over RAM and ROM (R413). -/
theorem indy_holds {s : State} (hall : ∀ a, holdsBytes s.devices a = true) (z : Byte) {base : Word}
    (hbase : base = word (s.byteAt (ptrhi (zext z) s.params.zeroPageBug)) (s.byteAt (zext z))) :
    resolve (.indy z) s = .ok ⟨.addr (base + zext s.Y), some (s.byteAt (base + zext s.Y)),
      decide (hi base ≠ hi (base + zext s.Y)), none⟩ s := by
  rw [resolve_indy, bind_apply, readPointer_holds (hall _) (hall _), ← hbase]
  exact atAddress_holds (hall _) _ none

/-- Settles O8: each mode's reads over RAM and ROM, and its addresses as numbers. -/
theorem effectiveAddresses : Obligations.EffectiveAddresses := by
  intro s hall
  have direct : ∀ a extra disp, atAddress a extra disp s = .ok ⟨.addr a, some (s.byteAt a), extra, disp⟩ s :=
    fun a => atAddress_holds (hall a)
  refine ⟨fun z => ⟨direct _ _ _, zext_toNat z⟩, fun z => ⟨_, direct _ _ _, zext_add_toNat z s.X⟩,
    fun z => ⟨_, direct _ _ _, zext_add_toNat z s.Y⟩, fun w => direct _ _ _,
    fun w => ⟨_, _, direct _ _ _, add_zext_toNat w s.X, crossing_iff w _⟩,
    fun w => ⟨_, _, direct _ _ _, add_zext_toNat w s.Y, crossing_iff w _⟩,
    fun p => ⟨_, ptrhi p (jmpWrap s.params), pointer_holds hall _ _, word_toNat _ _, ptrhi_toNat p _⟩,
    fun z => ⟨_, zext (z + s.X), ptrhi (zext (z + s.X)) s.params.zeroPageBug, pointer_holds hall _ _,
      zext_add_toNat z s.X, word_toNat _ _, ?indx⟩,
    fun z => ?indy,
    fun z => ⟨_, ptrhi (zext z) s.params.zeroPageBug, pointer_holds hall _ _, word_toNat _ _, ptrhi_zext_toNat z _⟩,
    fun w => ⟨_, w + zext s.X, pointer_holds hall _ _, add_zext_toNat w s.X, word_toNat _ _⟩,
    fun z d => direct _ _ _, fun b => rfl⟩
  case indx =>
    rw [ptrhi_zext_toNat, zext_toNat]
  case indy =>
    refine ⟨_, _, ptrhi (zext z) s.params.zeroPageBug, _, indy_holds hall z rfl, ptrhi_zext_toNat z _, rfl, ?_, ?_⟩
    · rw [add_zext_toNat, word_toNat]
    · rw [crossing_iff, word_toNat]

/-- Settles O9: the two forms of `ptrhi`, and the modes that use it. -/
theorem pointerHighByteAddress : Obligations.PointerHighByteAddress := by
  refine ⟨fun p => ⟨rfl, rfl, fun h => ?_⟩, rfl, rfl, ?indx, ?zeroPage⟩
  · apply BitVec.eq_of_toNat_eq
    have hlo : p.toNat % 256 ≠ 255 := fun e => h (BitVec.eq_of_toNat_eq ((lo_toNat p).trans e))
    have := p.isLt
    have hone : (1 : Word).toNat = 1 := rfl
    rw [ptrhi_toNat, BitVec.toNat_add, hone]
    simp only [if_true]
    omega
  case indx =>
    rintro s hall z p a rfl rfl
    exact pointer_holds hall _ _
  case zeroPage =>
    rintro s hall z p a rfl rfl
    exact ⟨pointer_holds hall _ _, _, indy_holds hall z rfl⟩

/-! ## Reads that fail -/

theorem atAddress_error {s t : State} {a : Word} {extra : Bool} {disp : Option Byte} {e : BusError}
    (h : atAddress a extra disp s = .error e t) : t = s ∧ busRead a s = .error e s := by
  rcases bind_error h with h1 | ⟨_, u, _, h2⟩
  · exact ⟨(busRead_error h1).1, by rw [h1, (busRead_error h1).1]⟩
  · cases h2

/-- A read fails only where no device owns the address (R204). -/
theorem busRead_error_unowned {s t : State} {a : Word} {e : BusError} (h : busRead a s = .error e t) :
    t = s ∧ e = .addressError a ∧ readableAt s a = false := by
  obtain ⟨rfl, rfl⟩ := busRead_error h
  refine ⟨rfl, rfl, ?_⟩
  by_contra hr
  obtain ⟨v, u, hok⟩ := busRead_readable (Bool.eq_true_of_not_eq_false hr)
  rw [hok] at h
  cases h

/-- The shape of every fault of the resolver: an AddressError where no device owns the address, after reads that changed
nothing but what external devices have been asked. -/
def UnownedError (s : State) (e : BusError) (t : State) : Prop :=
  sameButDevices s t ∧ ∃ a, e = .addressError a ∧ readableAt s a = false

theorem busRead_unownedError {s t : State} {a : Word} {e : BusError} (h : busRead a s = .error e t) :
    UnownedError s e t := by
  obtain ⟨rfl, rfl, hr⟩ := busRead_error_unowned h
  exact ⟨rfl, a, rfl, hr⟩

theorem UnownedError.after {s u t : State} {e : BusError} (h : UnownedError u e t) (hsu : sameButDevices s u) :
    UnownedError s e t := by
  obtain ⟨hut, a, rfl, hr⟩ := h
  exact ⟨sameButDevices_trans hsu hut, a, rfl, (readableAt_congr (by rw [hsu]) a).symm.trans hr⟩

theorem atAddress_unownedError {s t : State} {a : Word} {extra : Bool} {disp : Option Byte} {e : BusError}
    (h : atAddress a extra disp s = .error e t) : UnownedError s e t := by
  obtain ⟨rfl, hread⟩ := atAddress_error h
  exact busRead_unownedError hread

theorem readPointer_unownedError {s t : State} {l h : Word} {e : BusError} (hr : readPointer l h s = .error e t) :
    UnownedError s e t := by
  rcases bind_error hr with h1 | ⟨_, u, h1, h2⟩
  · exact busRead_unownedError h1
  · rcases bind_error h2 with h2 | ⟨_, v, _, h3⟩
    · exact (busRead_unownedError h2).after (busRead_frame h1)
    · cases h3

theorem resolve_unownedError {o : Operand} {s t : State} {e : BusError} (h : resolve o s = .error e t) :
    UnownedError s e t := by
  rcases bind_error h with h0 | ⟨_, _, h0, h⟩
  · cases h0
  · cases h0
    cases o with
    | imp | acc | imm _ | rel _ | stack => cases h
    | zp _ | zpx _ | zpy _ | abs _ | zprel _ _ => exact atAddress_unownedError h
    | absx _ | absy _ => exact atAddress_unownedError h
    | ind _ | indx _ | indy _ | zpind _ | absindx _ =>
      rcases bind_error h with h1 | ⟨_, v, h1, h2⟩
      · exact readPointer_unownedError h1
      · exact (atAddress_unownedError h2).after (readPointer_frame h1)

theorem atAddress_unowned {s : State} {a : Word} (h : readableAt s a = false) (extra : Bool) (disp : Option Byte) :
    atAddress a extra disp s = .error (.addressError a) s := by
  simp only [atAddress, bind_apply, busRead_unowned h]

/-- What a pointer mode does: it reads a pointer at `p`, adds `y`, and reads there. -/
def PointerMode (o : Operand) (s : State) (p y : Word) (wrap : Bool) : Prop :=
  ∃ extra : Word → Bool, resolve o s =
    (readPointer p (ptrhi p wrap) >>= fun loc => atAddress (loc + y) (extra loc) none) s

/-- Without an index the location is the pointer itself. -/
theorem pointerMode_of_plain {o : Operand} {s : State} {p : Word} {wrap : Bool}
    (h : resolve o s = (readPointer p (ptrhi p wrap) >>= fun loc => atAddress loc false none) s) :
    PointerMode o s p 0 wrap :=
  ⟨fun _ => false, by simpa only [add_zero] using h⟩

/-- The five pointer modes (R411 to R413, R415, R416). -/
theorem pointerMode_of_operand {o : Operand} {s : State} {p y : Word} {wrap : Bool}
    (h : (o = .ind p ∧ wrap = s.params.jmpIndPageWrap.getD s.params.zeroPageBug ∧ y = 0) ∨
      (∃ z, o = .indx z ∧ p = zext (z + s.X) ∧ wrap = s.params.zeroPageBug ∧ y = 0) ∨
      (∃ z, o = .indy z ∧ p = zext z ∧ wrap = s.params.zeroPageBug ∧ y = zext s.Y) ∨
      (∃ z, o = .zpind z ∧ p = zext z ∧ wrap = s.params.zeroPageBug ∧ y = 0) ∨
      ∃ w, o = .absindx w ∧ p = w + zext s.X ∧ wrap = false ∧ y = 0) : PointerMode o s p y wrap := by
  rcases h with ⟨rfl, rfl, rfl⟩ | ⟨z, rfl, rfl, rfl, rfl⟩ | ⟨z, rfl, rfl, rfl, rfl⟩ | ⟨z, rfl, rfl, rfl, rfl⟩ |
    ⟨w, rfl, rfl, rfl, rfl⟩
  · exact pointerMode_of_plain (resolve_ind p)
  · exact pointerMode_of_plain (resolve_indx z)
  · exact ⟨fun loc => decide (hi loc ≠ hi (loc + zext s.Y)), resolve_indy z⟩
  · exact pointerMode_of_plain (resolve_zpind z)
  · exact pointerMode_of_plain (resolve_absindx w)

/-- Where a pointer mode stops (R204, R420). -/
theorem PointerMode.errors {o : Operand} {s : State} {p y : Word} {wrap : Bool} (hmode : PointerMode o s p y wrap) :
    (readableAt s p = false → resolve o s = .error (.addressError p) s) ∧
    (∀ l t, busRead p s = .ok l t → readableAt s (ptrhi p wrap) = false →
      resolve o s = .error (.addressError (ptrhi p wrap)) t) ∧
    (∀ l h t u, busRead p s = .ok l t → busRead (ptrhi p wrap) t = .ok h u → readableAt s (word h l + y) = false →
      resolve o s = .error (.addressError (word h l + y)) u) := by
  obtain ⟨extra, hreads⟩ := hmode
  rw [hreads]
  refine ⟨fun hun => ?low, fun l t hl hun => ?high, fun l h t u hl hh hun => ?target⟩
  case low => simp only [readPointer, bind_apply, busRead_unowned hun]
  case high =>
    have hun' := (readableAt_congr (t := t) (by rw [busRead_frame hl]) (ptrhi p wrap)).trans hun
    simp only [readPointer, bind_apply, hl, busRead_unowned hun']
  case target =>
    have hframe := sameButDevices_trans (busRead_frame hl) (busRead_frame hh)
    have hun' := (readableAt_congr (t := u) (by rw [hframe]) (word h l + y)).trans hun
    simp only [readPointer, bind_apply, hl, hh, pure_apply, atAddress_unowned hun']

/-- Settles O10: a fault of the resolver is the instruction's, and each mode's unowned reads are faults of the resolver. -/
theorem unownedOperandFaults : Obligations.UnownedOperandFaults := by
  intro i s hwf
  obtain ⟨op, hop⟩ := opcode_of_wf hwf
  refine ⟨fun e t h => ⟨exec_resolve_fault hop h, resolve_unownedError h⟩, fun a hun hoperand => ?direct,
    fun p y wrap hoperand => ?pointer⟩
  case direct =>
    have hr : resolve i.operand s = .error (.addressError a) s := by
      rcases hoperand with h | ⟨w, h, rfl⟩ | ⟨w, h, rfl⟩ | ⟨z, ⟨h, rfl⟩ | ⟨h, rfl⟩ | ⟨h, rfl⟩ | ⟨d, h, rfl⟩⟩ <;>
        rw [h] <;> exact atAddress_unowned hun _ _
    exact exec_resolve_fault hop hr
  case pointer =>
    obtain ⟨hlow, hhigh, htarget⟩ := (pointerMode_of_operand hoperand).errors
    exact ⟨fun hun => exec_resolve_fault hop (hlow hun), fun l t hl hun => exec_resolve_fault hop (hhigh l t hl hun),
      fun l h t u hl hh hun => exec_resolve_fault hop (htarget l h t u hl hh hun)⟩

end Sys2Proof.Machine
end

section
/-!
PROOFS. The step, the clock and the host calls (30_encoding.md R320; 70_reset_and_hazards.md R1301, R1310, R1312;
60_exceptions.md R1214, R1230; 20_memory.md R202, R203, R212): what each call answers, by the phase it is made in.
-/

namespace Sys2Proof.Machine

/-! ## The fetch -/

/-- A fetch from RAM or ROM (R400). -/
theorem fetch_holds {s : State} (h : holdsBytes s.devices s.PC = true) :
    fetch s = .ok (s.byteAt s.PC) { s with PC := s.PC + 1 } := by
  simp only [fetch, bind_apply, getState_apply, busRead_holds h, setPC_apply, pure_apply]

theorem word_add_one_one (a : Word) : a + 1 + 1 = a + 2 := by bv_omega

theorem word_add_two_one (a : Word) : a + 2 + 1 = a + 3 := by bv_omega

/-- The fetch of an instruction from RAM or ROM reads its bytes and no other, and PC passes them (R320). -/
theorem fetchInstruction_holds {s : State} {i : Instr} {rest : List Byte}
    (hdecode : decode [s.byteAt s.PC, s.byteAt (s.PC + 1), s.byteAt (s.PC + 2)] = .ok (i, rest))
    (hholds : ∀ k < instrLength (s.byteAt s.PC), holdsBytes s.devices (s.PC + BitVec.ofNat 16 k) = true) :
    fetchInstruction s = .ok i { s with PC := s.PC + BitVec.ofNat 16 (instrLength (s.byteAt s.PC)) } := by
  have hle := operandBytes_le (tableEntry (s.byteAt s.PC)).mode
  have hlength : instrLength (s.byteAt s.PC) = 1 + operandBytes (tableEntry (s.byteAt s.PC)).mode := rfl
  have first : fetch s = .ok (s.byteAt s.PC) { s with PC := s.PC + 1 } :=
    fetch_holds (by simpa using hholds 0 (by omega))
  have second : 1 < instrLength (s.byteAt s.PC) →
      fetch { s with PC := s.PC + 1 } = .ok (s.byteAt (s.PC + 1)) { s with PC := s.PC + 2 } := fun h => by
    rw [← word_add_one_one]
    exact fetch_holds (s := { s with PC := s.PC + 1 }) (hholds 1 h)
  have third : 2 < instrLength (s.byteAt s.PC) →
      fetch { s with PC := s.PC + 2 } = .ok (s.byteAt (s.PC + 2)) { s with PC := s.PC + 3 } := fun h => by
    rw [← word_add_two_one]
    exact fetch_holds (s := { s with PC := s.PC + 2 }) (hholds 2 h)
  rw [hlength] at second third ⊢
  unfold fetchInstruction
  rw [bind_apply, first]
  match hn : operandBytes (tableEntry (s.byteAt s.PC)).mode, hle with
  | 0, _ =>
    rw [decode_zero hn] at hdecode
    cases hdecode
    simp only [hn, pure_apply]
    rfl
  | 1, _ =>
    rw [decode_one hn] at hdecode
    cases hdecode
    simp only [hn, bind_apply, second (by omega), pure_apply]
    rfl
  | 2, _ =>
    rw [decode_two hn] at hdecode
    cases hdecode
    simp only [hn, bind_apply, second (by omega), third (by omega), pure_apply]
    rfl

theorem fetchInstruction_unowned {s : State} (h : readableAt s s.PC = false) :
    fetchInstruction s = .error (.addressError s.PC) s := by
  simp only [fetchInstruction, fetch, bind_apply, getState_apply, busRead_unowned h]

theorem stepInstruction_ok {s t : State} {i : Instr} (h : fetchInstruction s = .ok i t) :
    stepInstruction s = exec i t := by
  simp only [stepInstruction, h]

theorem stepInstruction_error {s t : State} {e : BusError} (h : fetchInstruction s = .error e t) :
    stepInstruction s = .fault (e.fault t) := by
  simp only [stepInstruction, h]

/-! ## The clock -/

section
variable {s : State} (hp : s.phase = .running)
include hp

theorem clock_counts (h : 0 < s.countdown) : clock s = .next ({ s with countdown := s.countdown - 1 }, false) := by
  simp only [clock, whenRunning_running hp, clockRunning, h, if_true]

theorem clock_asleep (h : s.countdown = 0) (hsleep : s.stopped = true ∨ s.waiting = true) :
    clock s = .next (s, false) := by
  simp only [clock, whenRunning_running hp, clockRunning, h, Nat.lt_irrefl, if_false, Bool.or_eq_true, hsleep, if_true]

theorem clock_executes (h : s.countdown = 0) (hs : s.stopped = false) (hw : s.waiting = false) :
    clock s = returning true (stepInstruction s) := by
  simp [clock, whenRunning_running hp, clockRunning, h, hs, hw]

theorem clockStep_executes (h : s.countdown = 0) (hs : s.stopped = false) (hw : s.waiting = false) :
    clockStep s = stepInstruction s := by
  simp only [clockStep, clock_executes hp h hs hw]
  cases stepInstruction s <;> rfl

end

/-- Settles O43: the three branches of the clock. -/
theorem clockCountsThenExecutes : Obligations.ClockCountsThenExecutes := by
  intro s hp
  refine ⟨clock_counts hp, clock_asleep hp, fun h hs hw => ⟨fun i t u hf he => ?_, fun i t f hf he => ?_, fun e t hf => ?_⟩⟩
  all_goals rw [clock_executes hp h hs hw]
  · rw [stepInstruction_ok hf, he]
    rfl
  · rw [stepInstruction_ok hf, he]
    rfl
  · rw [stepInstruction_error hf]
    rfl

theorem step_without_call {s : State} (h : s.hostCalls = []) : step s = clockStep s := by
  simp only [step, h]

theorem step_with_call {s : State} {c : HostCall} {rest : List HostCall} (h : s.hostCalls = c :: rest) :
    step s = perform c { s with hostCalls := rest } := by
  simp only [step, h]

/-- Settles O42: the step of an idle core is the clock's, which executes what the fetch reads. -/
theorem stepRunsDecodedInstruction : Obligations.StepRunsDecodedInstruction := by
  intro s hcalls hp hc hw hs
  have hstep : step s = stepInstruction s := (step_without_call hcalls).trans (clockStep_executes hp hc hs hw)
  rw [hstep]
  refine ⟨fun i rest n hdecode hn hholds => ?_, fun i t => stepInstruction_ok, fun hun => ?_⟩
  · subst hn
    exact stepInstruction_ok (fetchInstruction_holds hdecode hholds)
  · exact stepInstruction_error (fetchInstruction_unowned hun)

/-! ## Calls by phase -/

theorem whenRunning_refused {σ : Type} {call : State → Host.Outcome σ Fault Refusal} {s : State} {r : Refusal}
    (h : refusalOf s.phase = some r) : whenRunning call s = .refused r := by
  simp only [whenRunning, h]

theorem clockStep_refused {s : State} {r : Refusal} (h : refusalOf s.phase = some r) : clockStep s = .refused r := by
  simp only [clockStep, clock, whenRunning_refused h]

theorem forward_attached {s : State} (h : s.attached = true) (call : State → Host.Outcome State Fault Refusal) :
    forward call s = call s := by
  simp only [forward, h, if_true]

section
variable {s : State} (h : s.attached = false) (call : State → Host.Outcome State Fault Refusal)
include h

theorem forward_alone (hp : s.phase = .constructed ∨ s.phase = .running) : forward call s = .next s := by
  rcases hp with hp | hp <;> simp [forward, h, hp]

theorem forward_alone_faulted (hp : s.phase = .faulted) : forward call s = .refused .callAfterFault := by
  simp [forward, h, hp]

theorem forward_alone_notOperational (hp : s.phase = .notOperational) :
    forward call s = .refused .busNotOperational := by
  simp [forward, h, hp]

end

/-- Settles O44: `step` takes the first call, and a forwarded call is the core's or answers by the phase. -/
theorem stepMakesHostCalls : Obligations.StepMakesHostCalls := by
  intro s c rest
  refine ⟨step_with_call rfl, step_without_call rfl, rfl, rfl, rfl, rfl,
    fun h => ⟨forward_attached h irq, forward_attached h nmi⟩, fun h b hb => ?_⟩
  simp only [List.mem_cons, List.not_mem_nil, or_false] at hb
  rcases hb with rfl | rfl
  · exact ⟨forward_alone h irq, forward_alone_faulted h irq, forward_alone_notOperational h irq⟩
  · exact ⟨forward_alone h nmi, forward_alone_faulted h nmi, forward_alone_notOperational h nmi⟩

/-- A call of a run is refused outside one, also through the bus of an attached core (R141, R1230, R202). -/
theorem forward_refused {call : State → Host.Outcome State Fault Refusal} {s : State} {r : Refusal}
    (h : refusalOf s.phase = some r) (halone : s.attached = false → forward (whenRunning call) s = .refused r) :
    forward (whenRunning call) s = .refused r := by
  cases ha : s.attached with
  | true => rw [forward_attached ha, whenRunning_refused h]
  | false => exact halone ha

section
variable {s : State} {c : HostCall}

theorem perform_before_reset (hp : s.phase = .constructed)
    (hc : c ∈ [HostCall.clock, .irq, .nmi] ∨ c.isListing = true ∨ s.attached = true ∧ c ∈ [HostCall.busIrq, .busNmi]) :
    perform c s = .refused .callBeforeReset := by
  have hr : refusalOf s.phase = some .callBeforeReset := by rw [hp]; rfl
  cases c with
  | clock => exact clockStep_refused hr
  | irq | nmi => exact whenRunning_refused hr
  | listCommands _ | listNext _ | listRestart _ =>
    simp only [perform, startListing, nextOfListing, restartListing, onListing, whenRunning_refused hr]
  | busIrq | busNmi =>
    have hattached : s.attached = true := by simpa [HostCall.isListing] using hc
    exact (forward_attached hattached _).trans (whenRunning_refused hr)
  | reset | register _ | load _ _ _ | attach => simp [HostCall.isListing] at hc

theorem perform_after_fault (hp : s.phase = .faulted) (hc : c ≠ .reset) : perform c s = .refused .callAfterFault := by
  have hr : refusalOf s.phase = some .callAfterFault := by rw [hp]; rfl
  cases c with
  | reset => exact absurd rfl hc
  | clock => exact clockStep_refused hr
  | irq | nmi => exact whenRunning_refused hr
  | listCommands _ | listNext _ | listRestart _ =>
    simp only [perform, startListing, nextOfListing, restartListing, onListing, whenRunning_refused hr]
  | busIrq | busNmi => exact forward_refused hr fun ha => forward_alone_faulted ha _ hp
  | register _ | load _ _ _ | attach =>
    simp only [perform, registerDevice, loadProgram, attachCore, whenConstructed, hp]

theorem perform_not_operational (hp : s.phase = .notOperational) : perform c s = .refused .busNotOperational := by
  have hr : refusalOf s.phase = some .busNotOperational := by rw [hp]; rfl
  cases c with
  | reset => simp only [perform, resetCall, hp]
  | clock => exact clockStep_refused hr
  | irq | nmi => exact whenRunning_refused hr
  | listCommands _ | listNext _ | listRestart _ =>
    simp only [perform, startListing, nextOfListing, restartListing, onListing, whenRunning_refused hr]
  | busIrq | busNmi => exact forward_refused hr fun ha => forward_alone_notOperational ha _ hp
  | register _ | load _ _ _ | attach =>
    simp only [perform, registerDevice, loadProgram, attachCore, whenConstructed, hp]

end

/-- Settles O46: the phase decides which calls are refused. -/
theorem callsRefusedOutsideRun : Obligations.CallsRefusedOutsideRun := by
  intro s c
  refine ⟨perform_before_reset, perform_after_fault, perform_not_operational, fun hp d n offset bytes hc => ?_⟩
  simp only [List.mem_cons, List.not_mem_nil, or_false] at hc
  rcases hc with rfl | rfl | rfl <;>
    simp only [perform, registerDevice, loadProgram, attachCore, whenConstructed, hp]

/-! ## reset() -/

section
variable {s : State} (hp : s.phase ≠ .notOperational)
include hp

theorem resetCall_ok {target : Word} {t : State} (h : read16 vectorReset s = .ok target t) :
    resetCall s = .next (resetRegisters target t) := by
  unfold resetCall
  cases hq : s.phase with
  | notOperational => exact absurd hq hp
  | constructed | running | faulted => simp only [h]

theorem resetCall_error {e : BusError} {t : State} (h : read16 vectorReset s = .error e t) :
    resetCall s = .fault (e.fault t) := by
  unfold resetCall
  cases hq : s.phase with
  | notOperational => exact absurd hq hp
  | constructed | running | faulted => simp only [h]

end

theorem read16_low_unowned {s : State} {a : Word} (h : readableAt s a = false) :
    read16 a s = .error (.addressError a) s := by
  simp only [read16, bind_apply, busRead_unowned h]

theorem read16_high_unowned {s : State} {a : Word} (h0 : holdsBytes s.devices a = true)
    (h1 : readableAt s (a + 1) = false) : read16 a s = .error (.addressError (a + 1)) s := by
  simp only [read16, bind_apply, busRead_holds h0, busRead_unowned h1]

/-- Settles O45: the call reads the vector, and then `resetRegisters` or the fault. -/
theorem resetSetsRegisters : Obligations.ResetSetsRegisters := by
  intro s hp
  refine ⟨fun pc t h => ?_, read16_holds, fun hun => resetCall_error hp (read16_low_unowned hun),
    fun h0 h1 => resetCall_error hp (read16_high_unowned h0 h1)⟩
  rw [resetCall_ok hp h, read16_frame h]
  rfl

/-! ## The setup calls -/

theorem whenConstructed_constructed {s : State} (hp : s.phase = .constructed)
    (call : State → Host.Outcome State Fault Refusal) : whenConstructed call s = call s := by
  simp only [whenConstructed, hp]

/-- Two ranges that are not empty overlap exactly when they share an address (R202). -/
theorem overlaps_iff {d e : Device} (hd : 0 < d.size) (he : 0 < e.size) :
    d.overlaps e = true ↔ ∃ a, d.owns a = true ∧ e.owns a = true := by
  simp only [Device.overlaps, Device.owns, decide_eq_true_eq]
  constructor
  · rintro ⟨h1, h2⟩
    exact ⟨max d.base e.base, by omega, by omega⟩
  · rintro ⟨a, ha, hb⟩
    omega

theorem fits_iff {d : Device} : d.fits = true ↔ 0 < d.size ∧ d.base + d.size ≤ 0x10000 := decide_eq_true_iff

/-- Settles O48: the two checks of a registration. -/
theorem registrationChecksRanges : Obligations.RegistrationChecksRanges := by
  intro s d hinv hp
  obtain ⟨-, -, ⟨hfit, -⟩, -⟩ := hinv
  have hany : 0 < d.size → (s.devices.any d.overlaps = true ↔
      ∃ e ∈ s.devices, ∃ a, d.owns a = true ∧ e.owns a = true) := fun hd => by
    rw [List.any_eq_true]
    exact exists_congr fun e => and_congr_right fun he => overlaps_iff hd (fits_iff.1 (hfit e he)).1
  simp only [perform, registerDevice, whenConstructed_constructed hp]
  refine ⟨fun hbad => ?bad, fun hd hend hshared => ?overlap, fun hd hend hfree => ?appended⟩
  case bad =>
    have hfits : d.fits = false := by
      rw [← Bool.not_eq_true, fits_iff]
      omega
    simp only [hfits, Bool.not_false, if_true]
  case overlap =>
    simp only [fits_iff.2 ⟨hd, hend⟩, (hany hd).2 hshared, Bool.not_true, Bool.false_eq_true, if_false, if_true]
  case appended =>
    have hnone : s.devices.any d.overlaps = false := by
      rw [← Bool.not_eq_true, hany hd]
      rintro ⟨e, he, a, hboth⟩
      exact hfree e he a hboth
    simp only [fits_iff.2 ⟨hd, hend⟩, hnone, Bool.not_true, Bool.false_eq_true, if_false]

/-- A program load leaves the bytes outside its range alone (R212). -/
theorem read_writeAll_ne {init : RamInit} {bytes : List Byte} : ∀ {m : Memory} {a x : Nat},
    (∀ k < bytes.length, x ≠ a + k) → Memory.read init (Memory.writeAll init m a bytes) x = Memory.read init m x := by
  induction bytes with
  | nil => intro m a x _; rfl
  | cons b bs ih =>
    intro m a x h
    simp only [List.length_cons] at h
    have hrest : ∀ k < bs.length, x ≠ a + 1 + k := fun k hk => by
      have := h (k + 1) (by omega)
      omega
    exact (ih hrest).trans (read_write_ne (h 0 (by omega)))

/-- A program load puts byte `k` at the `k`-th address of its range (R212). -/
theorem read_writeAll_at {init : RamInit} {bytes : List Byte} : ∀ {m : Memory} {a k : Nat} {b : Byte},
    m.Pairwise (fun c d => c.1 < d.1) → bytes[k]? = some b →
    Memory.read init (Memory.writeAll init m a bytes) (a + k) = b := by
  induction bytes with
  | nil => intro m a k b _ h; simp at h
  | cons c bs ih =>
    intro m a k b hsorted h
    cases k with
    | zero =>
      cases h
      have kept := read_writeAll_ne (init := init) (bytes := bs) (m := Memory.write init m a c) (a := a + 1) (x := a)
        fun k _ => by omega
      exact kept.trans (read_write_self hsorted)
    | succ k =>
      have h' := ih (a := a + 1) (write_sorted hsorted (a := a) (v := c) (init := init)) (by simpa using h)
      rw [← h', Nat.add_right_comm]
      rfl

theorem cell_add (d : Device) (offset k : Nat) : d.cell (offset + k) = d.cell offset + k := by
  unfold Device.cell
  split <;> omega

/-- Settles O49: the bytes go to the rising addresses of the device's range. -/
theorem loadFillsBackingStore : Obligations.LoadFillsBackingStore := by
  intro s d n offset bytes hinv hp hd hk hholds
  obtain ⟨⟨hsorted, -⟩, -⟩ := hinv
  have hcall : perform (.load n offset bytes) s = .next { s with
      mem := Memory.writeAll s.params.ramInit s.mem (d.cell offset) bytes } := by
    rcases hk with hk | hk <;>
      simp only [perform, loadProgram, whenConstructed_constructed hp, hd, hk, hholds, if_true]
  refine ⟨_, hcall, rfl, fun k b hb => ?_, fun a ha => ?_⟩
  · rw [cell_add]
    exact read_writeAll_at hsorted hb
  · exact read_writeAll_ne fun k hk => by rw [← cell_add]; exact ha k hk

/-- Settles O52: the two states are evaluated; a core just constructed has no device and no byte. -/
theorem invariantAtReset : Obligations.InvariantAtReset :=
  ⟨by decide, fun _ => ⟨⟨.nil, by simp [State.constructed]⟩, by simp [State.constructed, memoryOwned],
    ⟨by simp [State.constructed], .nil⟩, by simp [State.constructed]⟩⟩

end Sys2Proof.Machine
end

section
/-!
PROOFS. What every instruction keeps, whatever it does (10_state.md R111 to R113; 60_exceptions.md R1230;
70_reset_and_hazards.md R1321). An operation is regular (`Regular`) when it writes B, U, I and D only as the rule of its
instruction allows, completes when every write does, and does the same under any timing. The primitive operations are
regular and sequences of regular operations are, so every instruction's operation is (`exec_regular`).
-/

namespace Sys2Proof.Machine

/-! ## The writers of B, U, I and D -/

/-- How an operation may change P: U stays set, and B, U, I and D change for the named writers only (R111 to R113). -/
structure FlagRule (op : Operation) (p q : Byte) : Prop where
  unusedSet : flagU p = true → flagU q = true
  named : op ≠ .PLP → op ≠ .RTI → flagB q = flagB p ∧ flagU q = flagU p ∧
    (op ∉ [.CLI, .SEI, .BRK] → flagI q = flagI p) ∧ (op ∉ [.CLD, .SED, .BRK] → flagD q = flagD p)

namespace FlagRule

variable {op : Operation} {p q r : Byte}

theorem of_same (hB : flagB q = flagB p) (hU : flagU q = flagU p) (hI : flagI q = flagI p) (hD : flagD q = flagD p) :
    FlagRule op p q := ⟨fun h => hU.trans h, fun _ _ => ⟨hB, hU, fun _ => hI, fun _ => hD⟩⟩

theorem refl (op : Operation) (p : Byte) : FlagRule op p p := of_same rfl rfl rfl rfl

theorem trans (h1 : FlagRule op p q) (h2 : FlagRule op q r) : FlagRule op p r := by
  refine ⟨fun h => h2.unusedSet (h1.unusedSet h), fun hplp hrti => ?_⟩
  obtain ⟨hB1, hU1, hI1, hD1⟩ := h1.named hplp hrti
  obtain ⟨hB2, hU2, hI2, hD2⟩ := h2.named hplp hrti
  exact ⟨hB2.trans hB1, hU2.trans hU1, fun h => (hI2 h).trans (hI1 h), fun h => (hD2 h).trans (hD1 h)⟩

/-- A change of N, V, Z and C alone. -/
theorem of_onlyFlags (h : onlyFlags maskNVZC p q) : FlagRule op p q := by
  have bit (n : Nat) (hn : (~~~maskNVZC).getLsbD n = true) : q.getLsbD n = p.getLsbD n := by
    have := congrArg (·.getLsbD n) h
    simpa only [BitVec.getLsbD_and, hn, Bool.and_true] using this
  exact of_same (bit 4 (by decide)) (bit 5 (by decide)) (bit 2 (by decide)) (bit 3 (by decide))

theorem setNZ (v : Byte) : FlagRule op p (setNZ v p) := of_same (by simp) (by simp) (by simp) (by simp)

theorem cmpFlags (x m : Byte) : FlagRule op p (cmpFlags x m p) := by
  unfold Sys2Proof.cmpFlags
  exact of_same (by simp) (by simp) (by simp) (by simp)

theorem bitFlags (immediate : Bool) (a m : Byte) : FlagRule op p (bitFlags immediate a m p) := by
  unfold Sys2Proof.bitFlags
  split <;> exact of_same (by simp) (by simp) (by simp) (by simp)

theorem adcAlu (mode : DecimalNZ) (a m : Byte) : FlagRule op p (adcAlu mode a m p).2 := by
  refine of_onlyFlags ?_
  unfold Sys2Proof.adcAlu
  split
  · exact onlyFlags_decimalNz _ _ _ _ _ (onlyFlags_putFlag _ (onlyFlags_putFlag _ rfl (by decide)) (by decide))
  · exact (adcBin_spec a m p).2.2.2.2.2

theorem sbcAlu (mode : DecimalNZ) (a m : Byte) : FlagRule op p (sbcAlu mode a m p).2 := by
  refine of_onlyFlags ?_
  unfold Sys2Proof.sbcAlu
  split
  · exact onlyFlags_decimalNz _ _ _ _ _ (onlyFlags_putFlag _ (onlyFlags_putFlag _ rfl (by decide)) (by decide))
  · exact (sbcBin_spec a m p).2.2.2.2.2

end FlagRule

/-! ## Timing -/

/-- What R1321 lets a timing change: the cycle counts and penalties, and the countdown. -/
structure Timing where
  cycles : List (Byte × Nat)
  penalties : List (Byte × Bool)
  interruptCycles : Nat
  countdown : Nat

/-- The state under another timing. -/
def State.timed (s : State) (τ : Timing) : State :=
  { s with
    params := { s.params with cycles := τ.cycles, pagePenalties := τ.penalties, interruptCycles := τ.interruptCycles }
    countdown := τ.countdown }

/-! ## Regular operations -/

theorem readableAt_of_writableAt {s : State} {a : Word} (h : writableAt s a = true) : readableAt s a = true := by
  unfold writableAt at h
  unfold readableAt
  cases ho : ownerOf s.devices a.toNat with
  | none => simp only [ho] at h; cases h
  | some _ => rfl

/-- An operation of an instruction: its flags, its completion and its independence of the timing. -/
structure Regular (op : Operation) {α : Type} (x : Op α) : Prop where
  flags : ∀ {s t : State} {a : α}, x s = .ok a t → FlagRule op s.P t.P
  completes : ∀ {s : State}, (∀ a, writableAt s a = true) → ∃ a t, x s = .ok a t ∧ t.devices = s.devices
  timing : ∀ {s t : State} {a : α} (τ : Timing), x s = .ok a t → x (s.timed τ) = .ok a (t.timed τ)

namespace Regular

variable {op : Operation}

theorem pure {α : Type} (a : α) : Regular op (pure a : Op α) where
  flags h := by cases h; exact .refl op _
  completes {s} _ := ⟨a, s, rfl, rfl⟩
  timing τ h := by cases h; rfl

theorem bind {α β : Type} {x : Op α} {f : α → Op β} (hx : Regular op x) (hf : ∀ a, Regular op (f a)) :
    Regular op (x >>= f) where
  flags h := by
    obtain ⟨a, u, h1, h2⟩ := bind_ok h
    exact (hx.flags h1).trans ((hf a).flags h2)
  completes {s} hw := by
    obtain ⟨a, u, h1, hu⟩ := hx.completes hw
    obtain ⟨b, t, h2, ht⟩ := (hf a).completes fun w => (writableAt_congr hu w).trans (hw w)
    exact ⟨b, t, by simp only [bind_apply, h1, h2], ht.trans hu⟩
  timing τ h := by
    obtain ⟨a, u, h1, h2⟩ := bind_ok h
    simp only [bind_apply, hx.timing τ h1, (hf a).timing τ h2]

/-- An operation may look at the state, but not at its timing. -/
theorem look {α : Type} {f : State → Op α} (hf : ∀ s, Regular op (f s)) (free : ∀ s τ, f (State.timed s τ) = f s) :
    Regular op (getState >>= f) where
  flags {s t a} h := (hf s).flags (show f s s = .ok a t from h)
  completes {s} hw := (hf s).completes hw
  timing {s t a} τ h := by
    have h' : f s s = .ok a t := h
    show f (s.timed τ) (s.timed τ) = _
    rw [free, (hf s).timing τ h']

theorem update {f : State → State} (flags : ∀ s, FlagRule op s.P (f s).P) (devices : ∀ s, (f s).devices = s.devices)
    (free : ∀ s τ, f (State.timed s τ) = (f s).timed τ) : Regular op (update f) where
  flags {s t a} h := by cases h; exact flags s
  completes {s} _ := ⟨(), f s, rfl, devices s⟩
  timing {s t a} τ h := by cases h; exact congrArg _ (free s τ)

theorem plain {x : Op Unit} (hx : Regular op x) : Regular op (plain x) := hx.bind fun _ => .pure 0

/-! ### Registers -/

theorem setA (v : Byte) : Regular op (setA v) := update (fun _ => .refl _ _) (fun _ => rfl) fun _ _ => rfl
theorem setX (v : Byte) : Regular op (setX v) := update (fun _ => .refl _ _) (fun _ => rfl) fun _ _ => rfl
theorem setY (v : Byte) : Regular op (setY v) := update (fun _ => .refl _ _) (fun _ => rfl) fun _ _ => rfl
theorem setS (v : Byte) : Regular op (setS v) := update (fun _ => .refl _ _) (fun _ => rfl) fun _ _ => rfl
theorem setPC (v : Word) : Regular op (setPC v) := update (fun _ => .refl _ _) (fun _ => rfl) fun _ _ => rfl
theorem recordUnsupported (b : Byte) (a : Word) : Regular op (recordUnsupported b a) :=
  update (fun _ => .refl _ _) (fun _ => rfl) fun _ _ => rfl
theorem updateP {f : Byte → Byte} (hf : ∀ p, FlagRule op p (f p)) : Regular op (updateP f) :=
  update (fun s => hf s.P) (fun _ => rfl) fun _ _ => rfl
theorem updateNZ (v : Byte) : Regular op (updateNZ v) := updateP fun _ => .setNZ v

/-! ### The bus and the stack -/

theorem busRead (a : Word) : Regular op (busRead a) where
  flags h := by rw [busRead_frame h]; exact .refl op _
  completes hw := by
    obtain ⟨b, t, h⟩ := busRead_readable (readableAt_of_writableAt (hw a))
    exact ⟨b, t, h, by rw [busRead_frame h]⟩
  timing {s t b} τ h := by
    unfold Machine.busRead at h ⊢
    show (match ownerOf s.devices a.toNat with | none => _ | some d => _) = _
    cases ho : ownerOf s.devices a.toNat with
    | none => rw [ho] at h; cases h
    | some d =>
      rw [ho] at h
      simp only [Device.read] at h ⊢
      split at h <;> cases h <;> rfl

theorem busWrite (a : Word) (v : Byte) : Regular op (busWrite a v) where
  flags h := by rw [busWrite_frame h]; exact .refl op _
  completes hw := by
    obtain ⟨t, h⟩ := busWrite_writable (v := v) (hw a)
    exact ⟨(), t, h, by rw [busWrite_frame h]⟩
  timing {s t b} τ h := by
    unfold Machine.busWrite at h ⊢
    show (match ownerOf s.devices a.toNat with | none => _ | some d => _) = _
    cases ho : ownerOf s.devices a.toNat with
    | none => rw [ho] at h; cases h
    | some d =>
      rw [ho] at h
      simp only [Device.write] at h ⊢
      split at h <;> cases h <;> rfl

theorem read16 (a : Word) : Regular op (read16 a) := (busRead _).bind fun _ => (busRead _).bind fun _ => .pure _

theorem readPointer (l h : Word) : Regular op (readPointer l h) :=
  (busRead _).bind fun _ => (busRead _).bind fun _ => .pure _

theorem atAddress (a : Word) (extra : Bool) (disp : Option Byte) : Regular op (atAddress a extra disp) :=
  (busRead a).bind fun _ => .pure _

theorem resolve (o : Operand) : Regular op (resolve o) := by
  refine look (fun s => ?_) fun s τ => rfl
  cases o with
  | imp | acc | imm _ | rel _ | stack => exact .pure _
  | zp _ | zpx _ | zpy _ | abs _ | absx _ | absy _ | zprel _ _ => exact atAddress _ _ _
  | ind _ | indx _ | indy _ | zpind _ | absindx _ => exact (readPointer _ _).bind fun _ => atAddress _ _ _

theorem store (loc : Loc) (v : Byte) : Regular op (store loc v) := by
  cases loc with
  | acc => exact setA v
  | addr a => exact busWrite a v
  | none => exact .pure ()

theorem push (v : Byte) : Regular op (push v) :=
  look (fun s => (busWrite _ v).bind fun _ => setS (s.S - 1)) fun _ _ => rfl

theorem pull : Regular op pull := look (fun s => (setS (s.S + 1)).bind fun _ => busRead _) fun _ _ => rfl

/-! ### The operations instructions share -/

/-- An arithmetic operation is one change of P and A. -/
theorem intoA {alu : DecimalNZ → Byte → Byte → Byte → Byte × Byte}
    (halu : ∀ mode a m p, FlagRule op p (alu mode a m p).2) (r : Resolved) : Regular op (intoA alu r) :=
  plain <| update (f := fun s => { s with
      P := (alu s.params.decimalNZ s.A r.byte s.P).2
      A := (alu s.params.decimalNZ s.A r.byte s.P).1 })
    (fun _ => halu _ _ _ _) (fun _ => rfl) fun _ _ => rfl

/-- A register takes a value, then N and Z say what it is. -/
theorem load {put : Byte → Op Unit} (hput : ∀ v, Regular op (put v)) (v : Byte) :
    Regular op (do put v; Machine.updateNZ v) := (hput v).bind fun _ => updateNZ v

theorem logicA (f : Byte → Byte → Byte) (r : Resolved) : Regular op (logicA f r) :=
  plain <| look (fun _ => load setA _) fun _ _ => rfl

theorem pullValue {put : Byte → Op Unit} (hput : ∀ v, Regular op (put v)) : Regular op (pullValue put) :=
  plain <| pull.bind fun v => load hput v

theorem jumpTo (loc : Loc) : Regular op (jumpTo loc) := by
  cases loc with
  | addr a => exact setPC a
  | acc | none => exact .pure ()

section
variable (r : Resolved)

theorem stepInPlace (f : Byte → Byte) : Regular op (stepInPlace f r) :=
  plain <| (store _ _).bind fun _ => updateNZ _

theorem testAndWrite (f : Byte → Byte → Byte) : Regular op (testAndWrite f r) :=
  plain <| look (fun _ => (updateP fun _ => .of_same (by simp) (by simp) (by simp) (by simp)).bind fun _ => store _ _)
    fun _ _ => rfl

theorem shiftInPlace (f : Bool → Byte → Byte × Bool) : Regular op (shiftInPlace f r) :=
  plain <| look (fun _ => (updateP fun _ => .of_same (by simp) (by simp) (by simp) (by simp)).bind fun _ =>
    (store _ _).bind fun _ => updateNZ _) fun _ _ => rfl

theorem branch (taken : Bool) (disp : Byte) : Regular op (branch taken disp) := by
  refine look (fun s => ?_) fun _ _ => rfl
  cases taken with
  | true => exact (setPC _).bind fun _ => .pure _
  | false => exact .pure 0

theorem branchOnFlag (taken : Byte → Bool) : Regular op (branchOnFlag taken r) :=
  look (fun _ => branch _ _) fun _ _ => rfl

end

/-- A value that does not depend on the timing goes to a register, with N and Z of it. -/
theorem loadFrom {put : Byte → Op Unit} (hput : ∀ v, Regular op (put v)) {value : State → Byte}
    (free : ∀ s τ, value (State.timed s τ) = value s) :
    Regular op (Machine.plain do let s ← getState; put (value s); Machine.updateNZ (value s)) :=
  plain <| look (fun _ => load hput _) fun s τ => by rw [free]

/-- A value that does not depend on the timing is stored. -/
theorem storeFrom {put : Byte → Op Unit} (hput : ∀ v, Regular op (put v)) {value : State → Byte}
    (free : ∀ s τ, value (State.timed s τ) = value s) :
    Regular op (Machine.plain do let s ← getState; put (value s)) :=
  plain <| look (fun _ => hput _) fun s τ => by rw [free]

theorem compareWith {register : State → Byte} (free : ∀ s τ, register (State.timed s τ) = register s) (r : Resolved) :
    Regular op (compareWith register r) :=
  plain <| look (fun _ => updateP fun _ => .cmpFlags _ _) fun s τ => by rw [free]

theorem enterException (vector : Word) (image : Byte → Byte) : Regular .BRK (enterException vector image) :=
  look (fun s => (push (hi s.PC)).bind fun _ => (push (lo s.PC)).bind fun _ => (push (image s.P)).bind fun _ =>
    (updateP fun _ => ⟨by simp, by simp⟩).bind fun _ => (read16 vector).bind setPC) fun _ _ => rfl

theorem returnFromException : Regular .RTI returnFromException :=
  pull.bind fun _ => (updateP fun _ => ⟨by simp, by simp⟩).bind fun _ => pull.bind fun _ => pull.bind fun _ => setPC _

end Regular

/-! ## Every instruction -/

/-- Every instruction is `execute` of a regular operation. -/
theorem exec_regular (i : Instr) :
    ∃ operation, (∀ s, exec i s = execute i operation s) ∧ ∀ r, Regular i.operation (operation r) := by
  cases i with
  | lda _ => exact ⟨_, fun _ => rfl, fun r => .plain (.load .setA r.byte)⟩
  | ldx _ => exact ⟨_, fun _ => rfl, fun r => .plain (.load .setX r.byte)⟩
  | ldy _ => exact ⟨_, fun _ => rfl, fun r => .plain (.load .setY r.byte)⟩
  | sta _ | stx _ | sty _ | stz _ => exact ⟨_, fun _ => rfl, fun r => .storeFrom (.store r.loc) fun _ _ => rfl⟩
  | tax | tsx | inx | dex =>
    dsimp only [exec, execTax, execTsx, execInx, execDex]
    exact ⟨_, fun _ => rfl, fun _ => .loadFrom .setX fun _ _ => rfl⟩
  | tay | iny | dey =>
    dsimp only [exec, execTay, execIny, execDey]
    exact ⟨_, fun _ => rfl, fun _ => .loadFrom .setY fun _ _ => rfl⟩
  | txa | tya =>
    dsimp only [exec, execTxa, execTya]
    exact ⟨_, fun _ => rfl, fun _ => .loadFrom .setA fun _ _ => rfl⟩
  | txs =>
    dsimp only [exec, execTxs]
    exact ⟨_, fun _ => rfl, fun _ => .storeFrom .setS fun _ _ => rfl⟩
  | pha | php | phx | phy =>
    dsimp only [exec, execPha, execPhp, execPhx, execPhy]
    exact ⟨_, fun _ => rfl, fun _ => .storeFrom .push fun _ _ => rfl⟩
  | pla =>
    dsimp only [exec, execPla]
    exact ⟨_, fun _ => rfl, fun _ => .pullValue .setA⟩
  | plx =>
    dsimp only [exec, execPlx]
    exact ⟨_, fun _ => rfl, fun _ => .pullValue .setX⟩
  | ply =>
    dsimp only [exec, execPly]
    exact ⟨_, fun _ => rfl, fun _ => .pullValue .setY⟩
  | plp =>
    dsimp only [exec, execPlp]
    exact ⟨_, fun _ => rfl, fun _ => .plain (.bind .pull fun _ =>
      .updateP fun _ => ⟨by simp, fun h => absurd rfl h⟩)⟩
  | adc _ => exact ⟨_, fun _ => rfl, .intoA fun _ _ _ _ => .adcAlu _ _ _⟩
  | sbc _ => exact ⟨_, fun _ => rfl, .intoA fun _ _ _ _ => .sbcAlu _ _ _⟩
  | cmp _ | cpx _ | cpy _ => exact ⟨_, fun _ => rfl, .compareWith fun _ _ => rfl⟩
  | inc _ | dec _ => exact ⟨_, fun _ => rfl, fun r => .stepInPlace r _⟩
  | and _ | ora _ | eor _ => exact ⟨_, fun _ => rfl, .logicA _⟩
  | bit _ =>
    exact ⟨_, fun _ => rfl, fun _ => .plain (.look (fun _ => .updateP fun _ => .bitFlags _ _ _) fun _ _ => rfl)⟩
  | trb _ | tsb _ => exact ⟨_, fun _ => rfl, fun r => .testAndWrite r _⟩
  | rmb0 _ | rmb1 _ | rmb2 _ | rmb3 _ | rmb4 _ | rmb5 _ | rmb6 _ | rmb7 _
  | smb0 _ | smb1 _ | smb2 _ | smb3 _ | smb4 _ | smb5 _ | smb6 _ | smb7 _ =>
    dsimp only [exec, execRmb0, execRmb1, execRmb2, execRmb3, execRmb4, execRmb5, execRmb6, execRmb7,
      execSmb0, execSmb1, execSmb2, execSmb3, execSmb4, execSmb5, execSmb6, execSmb7]
    exact ⟨_, fun _ => rfl, fun r => .plain (.store r.loc _)⟩
  | asl _ | lsr _ | rol _ | ror _ => exact ⟨_, fun _ => rfl, fun r => .shiftInPlace r _⟩
  | bpl _ | bmi _ | bvc _ | bvs _ | bcc _ | bcs _ | bne _ | beq _ | bra _ =>
    dsimp only [exec, execBpl, execBmi, execBvc, execBvs, execBcc, execBcs, execBne, execBeq, execBra]
    exact ⟨_, fun _ => rfl, fun r => .branchOnFlag r _⟩
  | bbr0 _ _ | bbr1 _ _ | bbr2 _ _ | bbr3 _ _ | bbr4 _ _ | bbr5 _ _ | bbr6 _ _ | bbr7 _ _
  | bbs0 _ _ | bbs1 _ _ | bbs2 _ _ | bbs3 _ _ | bbs4 _ _ | bbs5 _ _ | bbs6 _ _ | bbs7 _ _ =>
    dsimp only [exec, execBbr0, execBbr1, execBbr2, execBbr3, execBbr4, execBbr5, execBbr6,
      execBbr7, execBbs0, execBbs1, execBbs2, execBbs3, execBbs4, execBbs5, execBbs6, execBbs7]
    exact ⟨_, fun _ => rfl, fun r => .branch _ _⟩
  | jmp _ => exact ⟨_, fun _ => rfl, fun r => .plain (.jumpTo r.loc)⟩
  | jsr _ =>
    dsimp only [exec, execJsr]
    exact ⟨_, fun _ => rfl, fun r => .plain (.look (fun _ => .bind (.push _) fun _ => .bind (.push _) fun _ =>
      .jumpTo r.loc) fun _ _ => rfl)⟩
  | rts =>
    dsimp only [exec, execRts]
    exact ⟨_, fun _ => rfl, fun _ => .plain (.bind .pull fun _ => .bind .pull fun _ => .setPC _)⟩
  | clc | clv | sec =>
    dsimp only [exec, execClc, execClv, execSec]
    exact ⟨_, fun _ => rfl, fun _ => .plain (.updateP fun _ => .of_same (by simp) (by simp) (by simp) (by simp))⟩
  | cld | cli | sed | sei =>
    dsimp only [exec, execCld, execCli, execSed, execSei]
    exact ⟨_, fun _ => rfl, fun _ => .plain (.updateP fun _ => ⟨by simp, by simp [Instr.operation]⟩)⟩
  | nop =>
    dsimp only [exec, execNop]
    exact ⟨_, fun _ => rfl, fun _ => .pure 0⟩
  | undef _ _ =>
    exact ⟨_, fun _ => rfl, fun _ => .plain (.look (fun _ => .recordUnsupported _ _) fun _ _ => rfl)⟩
  | brk =>
    dsimp only [exec, execBrk]
    exact ⟨_, fun _ => rfl, fun _ => .plain (.look (fun _ => .bind (.setPC _) fun _ => .enterException _ _)
      fun _ _ => rfl)⟩
  | rti =>
    dsimp only [exec, execRti]
    exact ⟨_, fun _ => rfl, fun _ => .plain .returnFromException⟩
  | wai | stp =>
    dsimp only [exec, execWai, execStp]
    exact ⟨_, fun _ => rfl, fun _ => .plain (.update (fun _ => .refl _ _) (fun _ => rfl) fun _ _ => rfl)⟩

/-- The change of P by an instruction. -/
theorem exec_flags {i : Instr} {s t : State} (h : exec i s = .next t) : FlagRule i.operation s.P t.P := by
  obtain ⟨operation, hexec, hregular⟩ := exec_regular i
  rw [hexec] at h
  obtain ⟨op, r, s1, adj, u, -, hr, ho, rfl⟩ := execute_next_inv h
  have kept : FlagRule i.operation s.P u.P := ((Regular.resolve i.operand).flags hr).trans ((hregular r).flags ho)
  exact kept

/-- Settles O57: the rule of `exec_flags` names the writers. -/
theorem breakAndInterruptFlagWriters : Obligations.BreakAndInterruptFlagWriters :=
  fun _ _ _ h => (exec_flags h).named

/-- Settles O58: the resolver and the operation complete. -/
theorem everyInstructionCompletes : Obligations.EveryInstructionCompletes := by
  intro i s hwf hw
  obtain ⟨op, hop⟩ := opcode_of_wf hwf
  obtain ⟨operation, hexec, hregular⟩ := exec_regular i
  obtain ⟨r, s1, hr, hdevices⟩ := (Regular.resolve (op := i.operation) i.operand).completes hw
  obtain ⟨adj, t, ho, -⟩ := (hregular r).completes fun a => (writableAt_congr hdevices a).trans (hw a)
  exact ⟨_, (hexec s).trans (execute_next hop hr ho)⟩

/-- Settles O60: the resolver and the operation do the same under the other timing; the countdown is loaded last. -/
theorem timingChangesOnlyCountdown : Obligations.TimingChangesOnlyCountdown := by
  intro i s t cycles penalties interruptCycles countdown h
  obtain ⟨operation, hexec, hregular⟩ := exec_regular i
  rw [hexec] at h
  obtain ⟨op, r, s1, adj, u, hop, hr, ho, rfl⟩ := execute_next_inv h
  let τ : Timing := ⟨cycles, penalties, interruptCycles, countdown⟩
  have hr' := (Regular.resolve (op := i.operation) i.operand).timing τ hr
  exact ⟨_, (hexec (s.timed τ)).trans (execute_next hop hr' ((hregular r).timing τ ho))⟩

end Sys2Proof.Machine
end

section
/-!
PROOFS. The invariant of every step (10_state.md R111; 20_memory.md R202, R203, R210 to R212), and the waits of WAI and STP
(10_state.md R131, R132; 60_exceptions.md R1210, R1211, R1244).
-/

namespace Sys2Proof.Machine

/-! ## The memory and the range table -/

/-- The part of the invariant that speaks of the memory and the devices. -/
def State.MemoryInv (s : State) : Prop :=
  Memory.wf s.params.ramInit s.mem ∧ memoryOwned s.devices s.mem ∧ devicesWf s.devices

theorem inv_iff {s : State} : s.Inv ↔ s.MemoryInv ∧ (s.phase = .running → flagU s.P = true) :=
  ⟨fun ⟨hwf, howned, hdevices, hU⟩ => ⟨⟨hwf, howned, hdevices⟩, hU⟩,
    fun ⟨⟨hwf, howned, hdevices⟩, hU⟩ => ⟨hwf, howned, hdevices, hU⟩⟩

theorem memoryInv_congr {s t : State} (hp : t.params = s.params) (hd : t.devices = s.devices) (hm : t.mem = s.mem)
    (h : s.MemoryInv) : t.MemoryInv := by
  unfold State.MemoryInv
  rwa [hp, hd, hm]

theorem CoreChange.memoryInv {s t : State} (h : CoreChange s t) (hinv : s.MemoryInv) : t.MemoryInv := by
  cases h with
  | outsideMemory config mem => exact memoryInv_congr config.params config.devices mem hinv
  | @ramWrite a v hram =>
    obtain ⟨hwf, howned, hdevices⟩ := hinv
    refine ⟨write_wf hwf a.isLt, fun c hc => ?_, hdevices⟩
    rcases mem_write hc with ⟨rfl, -⟩ | hc
    · rw [BitVec.ofNat_toNat, BitVec.setWidth_eq]
      exact ramAt_holdsBytes hram
    · exact howned c hc

theorem CoreChanges.memoryInv {s t : State} (h : CoreChanges s t) (hinv : s.MemoryInv) : t.MemoryInv := by
  induction h with
  | refl => exact hinv
  | tail _ change ih => exact change.memoryInv ih

theorem overlaps_comm (d e : Device) : d.overlaps e = e.overlaps d :=
  decide_eq_decide.2 and_comm

/-- In a legal range table a device owns each address of its range. -/
theorem ownerOf_of_owns {devices : List Device} (h : devicesWf devices) {d : Device} (hd : d ∈ devices) {a : Nat}
    (ha : d.owns a = true) : ownerOf devices a = some d := by
  have hsome : (ownerOf devices a).isSome = true := List.find?_isSome.2 ⟨d, hd, ha⟩
  obtain ⟨e, he⟩ := Option.isSome_iff_exists.1 hsome
  have : Std.Symm fun d e : Device => d.overlaps e = false := ⟨fun d e hde => (overlaps_comm e d).trans hde⟩
  by_contra hne
  have hde : d ≠ e := fun same => hne (same ▸ he)
  have apart := h.2.forall hd (ownerOf_mem he) hde
  have shared := (overlaps_iff (fits_iff.1 (h.1 d hd)).1 (fits_iff.1 (h.1 e (ownerOf_mem he))).1).2
    ⟨a, ha, ownerOf_owns he⟩
  rw [apart] at shared
  cases shared

/-- A device added at the end of the table takes no address from the others. -/
theorem holdsBytes_append {devices : List Device} {a : Word} (h : holdsBytes devices a = true) (more : List Device) :
    holdsBytes (devices ++ more) a = true := by
  unfold holdsBytes at h ⊢
  cases ho : ownerOf devices a.toNat with
  | none => rw [ho] at h; cases h
  | some d =>
    have ho' : ownerOf (devices ++ more) a.toNat = some d := by
      unfold ownerOf at ho ⊢
      rw [List.find?_append, ho, Option.some_or]
    rw [ho] at h
    rw [ho']
    exact h

theorem registerDevice_memoryInv {d : Device} {s t : State} (h : registerDevice d s = .next t) (hinv : s.MemoryInv) :
    t.MemoryInv := by
  obtain ⟨-, hfits, hapart, rfl⟩ := registerDevice_next h
  obtain ⟨hwf, howned, hfit, hpairs⟩ := hinv
  refine ⟨hwf, fun c hc => holdsBytes_append (howned c hc) [d], fun e he => ?fits, ?pairs⟩
  case fits =>
    rcases List.mem_append.1 he with he | he
    · exact hfit e he
    · exact List.mem_singleton.1 he ▸ hfits
  case pairs =>
    refine List.pairwise_append.2 ⟨hpairs, List.pairwise_singleton _ _, fun e he f hf => ?_⟩
    rw [List.mem_singleton.1 hf, overlaps_comm]
    exact Bool.eq_false_iff.2 fun hover => absurd (List.any_eq_true.2 ⟨e, he, hover⟩) (by rw [hapart]; decide)

theorem loadProgram_memoryInv {n offset : Nat} {bytes : List Byte} {s t : State}
    (h : loadProgram n offset bytes s = .next t) (hinv : s.MemoryInv) : t.MemoryInv := by
  obtain ⟨-, d, hd, hkind, hholds, rfl⟩ := loadProgram_next h
  obtain ⟨hwf, howned, hdevices⟩ := hinv
  have hmem : d ∈ s.devices := List.mem_of_getElem? hd
  obtain ⟨hlow, hhigh⟩ := of_decide_eq_true hholds
  have hfits := (fits_iff.1 (hdevices.1 d hmem)).2
  refine ⟨writeAll_wf hwf (by omega), fun c hc => ?_, hdevices⟩
  rcases mem_writeAll hc with hrange | hc
  · have howner : ownerOf s.devices c.1 = some d := ownerOf_of_owns hdevices hmem (decide_eq_true (by omega))
    have hc : (BitVec.ofNat 16 c.1).toNat = c.1 := by
      rw [BitVec.toNat_ofNat]
      omega
    simp only [holdsBytes, hc, howner]
    exact decide_eq_true hkind
  · exact howned c hc

/-- Every host call keeps the memory and the range table well-formed. -/
theorem perform_memoryInv {c : HostCall} {s t : State} (h : perform c s = .next t) (hinv : s.MemoryInv) :
    t.MemoryInv := by
  cases c with
  | register d => exact registerDevice_memoryInv h hinv
  | load n offset bytes => exact loadProgram_memoryInv h hinv
  | attach =>
    obtain ⟨-, rfl⟩ := attachCore_next h
    exact hinv
  | reset =>
    obtain ⟨target, u, hr, rfl⟩ := resetCall_next h
    rw [read16_frame hr]
    exact hinv
  | clock => exact (clockStep_coreChanges h).2.memoryInv hinv
  | irq => exact (irq_coreChanges h).2.memoryInv hinv
  | nmi => exact (nmi_coreChanges h).2.memoryInv hinv
  | busIrq =>
    rcases forward_coreChanges irq_coreChanges h with ⟨-, changes⟩ | ⟨-, rfl⟩
    · exact changes.memoryInv hinv
    · exact hinv
  | busNmi =>
    rcases forward_coreChanges nmi_coreChanges h with ⟨-, changes⟩ | ⟨-, rfl⟩
    · exact changes.memoryInv hinv
    · exact hinv
  | listCommands n => exact (startListing_coreChanges h).2.memoryInv hinv
  | listNext k => exact (onListing_coreChanges (fun l => pull_sameButDevices l s) h).2.memoryInv hinv
  | listRestart k => exact (onListing_coreChanges (f := fun l s => (l.restarted, s)) (fun _ => rfl) h).2.memoryInv hinv

/-! ## U -/

theorem fetch_P {s t : State} {b : Byte} (h : fetch s = .ok b t) : t.P = s.P := by
  obtain ⟨_, _, h0, h⟩ := bind_ok h
  cases h0
  obtain ⟨_, _, h1, h⟩ := bind_ok h
  cases h
  rw [busRead_frame h1]

theorem fetchInstruction_P {s t : State} {i : Instr} (h : fetchInstruction s = .ok i t) : t.P = s.P := by
  obtain ⟨op, u, h0, h⟩ := bind_ok h
  refine Eq.trans ?_ (fetch_P h0)
  revert h
  match operandBytes (tableEntry op).mode with
  | 0 => intro h; cases h; rfl
  | 1 =>
    intro h
    obtain ⟨_, v, h1, h⟩ := bind_ok h
    cases h
    exact fetch_P h1
  | _ + 2 =>
    intro h
    obtain ⟨_, v, h1, h⟩ := bind_ok h
    obtain ⟨_, w, h2, h⟩ := bind_ok h
    cases h
    exact (fetch_P h2).trans (fetch_P h1)

section
variable {s t : State} (hU : flagU s.P = true)
include hU

theorem stepInstruction_flagU (h : stepInstruction s = .next t) : flagU t.P = true := by
  unfold stepInstruction at h
  split at h
  · next hf =>
    refine (exec_flags h).unusedSet ?_
    rwa [fetchInstruction_P hf]
  · cases h

theorem clockStep_flagU (h : clockStep s = .next t) : flagU t.P = true := by
  obtain ⟨b, hc⟩ := clockStep_next h
  obtain ⟨-, hrun⟩ := whenRunning_next hc
  unfold clockRunning at hrun
  split at hrun
  · cases hrun; exact hU
  · split at hrun
    · cases hrun; exact hU
    · exact stepInstruction_flagU hU (returning_next hrun)

theorem interrupt_flagU {vector : Word} (h : outcomeOf (enterInterrupt vector) { s with waiting := false } = .next t) :
    flagU t.P = true := by
  obtain ⟨u, henter, rfl⟩ := interrupt_next h
  have hP := congrArg State.P (enterException_frame henter)
  show flagU u.P = true
  rw [hP]
  simpa using hU

theorem irq_flagU (h : irq s = .next t) : flagU t.P = true := by
  obtain ⟨hp, -⟩ := whenRunning_next h
  cases hs : s.stopped with
  | true => rw [irq_stopped hp hs] at h; cases h; exact hU
  | false =>
    cases hI : flagI s.P with
    | true => rw [irq_masked hp hs hI] at h; cases h; exact hU
    | false => rw [irq_taken hp hs hI] at h; exact interrupt_flagU hU h

theorem nmi_flagU (h : nmi s = .next t) : flagU t.P = true := by
  obtain ⟨hp, -⟩ := whenRunning_next h
  cases hs : s.stopped with
  | true => rw [nmi_stopped hp hs] at h; cases h; exact hU
  | false => rw [nmi_taken hp hs] at h; exact interrupt_flagU hU h

theorem forward_flagU {call : State → Host.Outcome State Fault Refusal} (hcall : call s = .next t → flagU t.P = true)
    (h : forward call s = .next t) : flagU t.P = true := by
  rcases forward_next h with hc | ⟨rfl, -⟩
  · exact hcall hc
  · exact hU

end

/-- A call on listings changes the listings and what external devices have been asked (R340). -/
theorem perform_listing {c : HostCall} {s t : State} (hc : c.isListing = true) (h : perform c s = .next t) :
    t = { s with listings := t.listings, draws := t.draws, deviceLog := t.deviceLog } := by
  have called {k : Nat} {f : Listing → State → Listing × State} (hf : ∀ l, sameButDevices s (f l s).2)
      (h : onListing k f s = .next t) :
      t = { s with listings := t.listings, draws := t.draws, deviceLog := t.deviceLog } := by
    obtain ⟨-, hrun⟩ := whenRunning_next h
    cases hl : s.listings[k]? with
    | none => rw [hl] at hrun; cases hrun
    | some l =>
      rw [hl] at hrun
      cases hrun
      rw [hf l]
  cases c with
  | listCommands n =>
    simp only [perform, startListing] at h
    obtain ⟨-, hrun⟩ := whenRunning_next h
    cases hrun
    rfl
  | listNext k => exact called (fun l => pull_sameButDevices l s) h
  | listRestart k => exact called (f := fun l s => (l.restarted, s)) (fun _ => rfl) h
  | reset | clock | irq | nmi | busIrq | busNmi | register _ | load _ _ _ | attach => cases hc

/-- The setup calls answer a next state only before the first `reset()` (R203). -/
theorem constructed_of_setup {c : HostCall} {s t : State} (hrun : c ∉ [.reset, .clock, .irq, .nmi, .busIrq, .busNmi])
    (hlisting : c.isListing = false) (h : perform c s = .next t) : s.phase = .constructed := by
  cases c with
  | register _ => exact (registerDevice_next h).1
  | load _ _ _ => exact (loadProgram_next h).1
  | attach => exact (attachCore_next h).1
  | listCommands _ | listNext _ | listRestart _ => cases hlisting
  | reset | clock | irq | nmi | busIrq | busNmi => simp at hrun

theorem resetRegisters_flagU (target : Word) (s : State) : flagU (resetRegisters target s).P = true := by
  rw [resetRegisters_P]
  decide

/-- Every host call of a running core keeps U set. -/
theorem perform_flagU_running {c : HostCall} {s t : State} (h : perform c s = .next t) (hp : s.phase = .running)
    (hU : flagU s.P = true) : flagU t.P = true := by
  cases c with
  | reset =>
    obtain ⟨target, u, -, rfl⟩ := resetCall_next h
    exact resetRegisters_flagU target u
  | clock => exact clockStep_flagU hU h
  | irq => exact irq_flagU hU h
  | nmi => exact nmi_flagU hU h
  | busIrq => exact forward_flagU hU (irq_flagU hU) h
  | busNmi => exact forward_flagU hU (nmi_flagU hU) h
  | register _ | load _ _ _ | attach => exact absurd (constructed_of_setup (by simp) rfl h) (by simp [hp])
  | listCommands _ | listNext _ | listRestart _ =>
    rw [perform_listing rfl h]
    exact hU

/-- A core that runs after a host call ran before it, or has been reset. -/
theorem perform_flagU {c : HostCall} {s t : State} (h : perform c s = .next t)
    (hU : s.phase = .running → flagU s.P = true) (ht : t.phase = .running) : flagU t.P = true := by
  rcases perform_cases h with ⟨hp, -⟩ | ⟨target, u, -, rfl⟩ | ⟨hp, hsetup⟩
  · exact perform_flagU_running h hp (hU hp)
  · exact resetRegisters_flagU target u
  · rw [hsetup, hp] at ht
    cases ht

/-- Settles O51: the step is a host call, and every call keeps both parts of the invariant. -/
theorem stepKeepsInvariant : Obligations.StepKeepsInvariant := by
  intro s t hinv h
  obtain ⟨c, calls, hstep⟩ := step_eq_perform s
  rw [hstep] at h
  obtain ⟨hmemory, hU⟩ := inv_iff.1 hinv
  exact inv_iff.2 ⟨perform_memoryInv h hmemory, perform_flagU h hU⟩

/-! ## WAI and STP -/

/-- A call of a stopped core that is neither a `reset()` nor a listing call lets the countdown run and does nothing else
(R132, R1244). -/
theorem perform_stopped {c : HostCall} {s t : State} (hp : s.phase = .running) (hs : s.stopped = true) (hreset : c ≠ .reset)
    (hlisting : c.isListing = false) (h : perform c s = .next t) :
    t = { s with countdown := t.countdown } ∧ t.countdown ≤ s.countdown := by
  have unchanged : s = { s with countdown := s.countdown } ∧ s.countdown ≤ s.countdown := ⟨rfl, le_refl _⟩
  have forwarded {call : State → Host.Outcome State Fault Refusal} (hcall : call s = .next s)
      (h : forward call s = .next t) : s = t := by
    rcases forward_next h with hc | ⟨rfl, -⟩
    · rw [hcall] at hc
      cases hc
      rfl
    · rfl
  cases c with
  | reset => exact absurd rfl hreset
  | clock =>
    obtain ⟨b, hc⟩ := clockStep_next h
    rcases Nat.eq_zero_or_pos s.countdown with hzero | hpos
    · rw [clock_asleep hp hzero (.inl hs)] at hc
      cases hc
      exact unchanged
    · rw [clock_counts hp hpos] at hc
      cases hc
      exact ⟨rfl, Nat.sub_le _ _⟩
  | irq =>
    cases (irq_stopped hp hs).symm.trans h
    exact unchanged
  | nmi =>
    cases (nmi_stopped hp hs).symm.trans h
    exact unchanged
  | busIrq =>
    cases forwarded (irq_stopped hp hs) h
    exact unchanged
  | busNmi =>
    cases forwarded (nmi_stopped hp hs) h
    exact unchanged
  | register _ | load _ _ _ | attach => exact absurd (constructed_of_setup (by simp) rfl h) (by simp [hp])
  | listCommands _ | listNext _ | listRestart _ => cases hlisting

/-- Settles O55: STP sets the flag, `reset()` clears it, and every other call of a stopped core is harmless. -/
theorem stoppedUntilReset : Obligations.StoppedUntilReset := by
  intro s t
  refine ⟨fun h => ?stp, fun h => ?reset, fun hp hs hreset h => ?step⟩
  case stp =>
    rw [(nopWaiAndStp.1 s).2.2] at h
    cases h
    rfl
  case reset =>
    obtain ⟨target, u, -, rfl⟩ := resetCall_next h
    rfl
  case step =>
    cases hcalls : s.hostCalls with
    | nil =>
      rw [step_without_call hcalls] at h
      obtain ⟨hsame, hle⟩ := perform_stopped (c := .clock) hp hs (by simp) rfl h
      rw [hsame]
      exact ⟨rfl, hle, fun _ => rfl⟩
    | cons c rest =>
      rw [step_with_call hcalls] at h
      have hc : c ≠ .reset := fun e => hreset rest (by rw [hcalls, e])
      cases hl : c.isListing with
      | true =>
        have hsame := perform_listing hl h
        rw [hsame]
        refine ⟨rfl, le_refl _, fun hno => ?_⟩
        rw [hno c rest rfl] at hl
        cases hl
      | false =>
        obtain ⟨hsame, hle⟩ := perform_stopped (s := { s with hostCalls := rest }) hp hs hc hl h
        rw [hsame]
        exact ⟨rfl, hle, fun _ => rfl⟩

theorem interrupt_not_waiting {s t : State} {vector : Word}
    (h : outcomeOf (enterInterrupt vector) { s with waiting := false } = .next t) : t.waiting = false := by
  obtain ⟨u, henter, rfl⟩ := interrupt_next h
  exact congrArg State.waiting (enterException_frame henter)

/-- A `clock()` of a waiting core lets the countdown run and does nothing else (R131). -/
theorem clockStep_waiting {s t : State} (hp : s.phase = .running) (hw : s.waiting = true) (h : clockStep s = .next t) :
    t = { s with countdown := s.countdown - 1 } := by
  obtain ⟨b, hc⟩ := clockStep_next h
  rcases Nat.eq_zero_or_pos s.countdown with hzero | hpos
  · rw [clock_asleep hp hzero (.inr hw)] at hc
    cases hc
    rw [hzero]
    cases s
    cases hzero
    rfl
  · rw [clock_counts hp hpos] at hc
    cases hc
    rfl

/-- Settles O56: WAI sets the flag, `reset()` and the interrupts clear it, and `clock()` leaves it. -/
theorem waitingUntilInterrupt : Obligations.WaitingUntilInterrupt := by
  intro s t
  refine ⟨fun h => ?wai, fun h => ?reset, fun hs h => ?interrupt, fun hp hw hcalls h => ?clock⟩
  case wai =>
    rw [(nopWaiAndStp.1 s).2.1] at h
    cases h
    rfl
  case reset =>
    obtain ⟨target, u, -, rfl⟩ := resetCall_next h
    rfl
  case interrupt =>
    rcases h with h | h
    · obtain ⟨hp, -⟩ := whenRunning_next h
      cases hI : flagI s.P with
      | true => rw [irq_masked hp hs hI] at h; cases h; rfl
      | false => rw [irq_taken hp hs hI] at h; exact interrupt_not_waiting h
    · obtain ⟨hp, -⟩ := whenRunning_next h
      rw [nmi_taken hp hs] at h
      exact interrupt_not_waiting h
  case clock =>
    rcases hcalls with hcalls | ⟨rest, hcalls⟩
    · rw [step_without_call hcalls] at h
      rw [clockStep_waiting hp hw h, hcalls]
      rfl
    · rw [step_with_call hcalls] at h
      rw [clockStep_waiting (s := { s with hostCalls := rest }) hp hw h, hcalls]
      rfl

end Sys2Proof.Machine
end

section
/-!
PROOFS. The listing (30_encoding.md R340, R341). One more pair is read by `pull`, which gives a pair, ends the sequence with
an AddressError, or does nothing (`pull_cases`); what the first `k` pairs are follows by induction on the pulls.
-/

namespace Sys2Proof.Machine

/-! ## One entry -/

theorem readOperandBytes_unownedError {n : Nat} {a : Word} {s t : State} {e : BusError}
    (h : readOperandBytes n a s = .error e t) : UnownedError s e t := by
  match n with
  | 0 => cases h
  | 1 =>
    rcases bind_error h with h1 | ⟨_, u, _, h2⟩
    · exact busRead_unownedError h1
    · cases h2
  | n + 2 =>
    rcases bind_error h with h1 | ⟨_, u, h1, h2⟩
    · exact busRead_unownedError h1
    · rcases bind_error h2 with h2 | ⟨_, v, _, h3⟩
      · exact (busRead_unownedError h2).after (busRead_frame h1)
      · cases h3

theorem listEntry_unownedError {a : Word} {s t : State} {e : BusError} (h : listEntry a s = .error e t) :
    UnownedError s e t := by
  rcases bind_error h with h0 | ⟨_, u, h0, h1⟩
  · exact busRead_unownedError h0
  · rcases bind_error h1 with h1 | ⟨_, v, _, h2⟩
    · exact (readOperandBytes_unownedError h1).after (busRead_frame h0)
    · cases h2

theorem assemble_of_zero {m : Mode} (h : operandBytes m = 0) (b1 b2 : Byte) : assemble m b1 b2 = assemble m 0 0 := by
  cases m <;> simp [operandBytes] at h <;> rfl

theorem assemble_of_one {m : Mode} (h : operandBytes m = 1) (b1 b2 : Byte) : assemble m b1 b2 = assemble m b1 0 := by
  cases m <;> simp [operandBytes] at h <;> rfl

/-- The text of the bytes at an address. -/
def State.textAt (s : State) (a : Word) : List Char :=
  listingText a (s.byteAt a) (s.byteAt (a + 1)) (s.byteAt (a + 2))

/-- An entry over RAM or ROM: the operand bytes an instruction does not have do not show in its text. -/
theorem listEntry_holds {s : State} (h : ∀ a, holdsBytes s.devices a = true) (a : Word) :
    listEntry a s = .ok ((a, s.textAt a), a + BitVec.ofNat 16 (instrLength (s.byteAt a))) s := by
  have hle := operandBytes_le (tableEntry (s.byteAt a)).mode
  simp only [listEntry, bind_apply, busRead_holds (h a)]
  match hn : operandBytes (tableEntry (s.byteAt a)).mode, hle with
  | 0, _ => simp only [readOperandBytes, pure_apply, State.textAt, listingText, assemble_of_zero hn]
  | 1, _ =>
    simp only [readOperandBytes, bind_apply, busRead_holds (h (a + 1)), pure_apply, State.textAt, listingText,
      assemble_of_one hn (s.byteAt (a + 1)) (s.byteAt (a + 2))]
  | 2, _ =>
    simp only [readOperandBytes, bind_apply, busRead_holds (h (a + 1)), busRead_holds (h (a + 2)), pure_apply,
      State.textAt, word_add_one_one]

/-! ## One pull -/

theorem ended_eq_false {l : Listing} : l.ended = false ↔ l.error = none ∧ l.limit ≠ some l.pairs.length := by
  simp [Listing.ended]

/-- What reading the next pair does. -/
theorem pull_cases (l : Listing) (s : State) :
    (l.ended = true ∧ l.pull s = (l, s)) ∨
    (l.ended = false ∧ ∃ pair next t, listEntry l.next s = .ok (pair, next) t ∧
      l.pull s = ({ l with next := next, pairs := l.pairs ++ [pair] }, t)) ∨
    (l.ended = false ∧ ∃ a t, sameButDevices s t ∧ listEntry l.next s = .error (.addressError a) t ∧
      readableAt s a = false ∧ l.pull s = ({ l with error := some a }, t)) := by
  unfold Listing.pull
  cases hend : l.ended with
  | true => exact .inl ⟨rfl, rfl⟩
  | false =>
    right
    cases hentry : listEntry l.next s with
    | ok x t => exact .inl ⟨rfl, x.1, x.2, t, rfl, rfl⟩
    | error e t =>
      obtain ⟨hsame, a, rfl, hun⟩ := listEntry_unownedError hentry
      exact .inr ⟨rfl, a, t, hsame, rfl, hun, rfl⟩

/-- What every pull keeps, counting the pulls, holds after any number of them. -/
theorem pulls_induction {motive : Nat → Listing → State → Prop}
    (step : ∀ j l s, motive j l s → motive (j + 1) (l.pull s).1 (l.pull s).2) :
    ∀ k {j l s}, motive j l s → motive (j + k) (Listing.pulls k l s).1 (Listing.pulls k l s).2
  | 0, _, _, _, h => h
  | k + 1, j, l, s, h => by
    have after := pulls_induction step k (step j l s h)
    rwa [Nat.add_right_comm] at after

/-! ## The first pairs of a listing -/

/-- A listing of limit `n` started in `s` and read `k` times: its bounds, how far it has come and how it has ended. -/
structure ListedFrom (n : Int) (s : State) (k : Nat) (l : Listing) (t : State) : Prop where
  same : sameButDevices s t
  start : l.start = s.PC
  limit : l.limit = if 0 ≤ n then some n.toNat else none
  length_le : l.pairs.length ≤ k
  length_limit : 0 ≤ n → l.pairs.length ≤ n.toNat
  complete : l.error = none → l.pairs.length = k ∨ 0 ≤ n ∧ l.pairs.length = n.toNat
  unowned : ∀ a, l.error = some a → readableAt s a = false

theorem listedFrom_started (n : Int) (s : State) : ListedFrom n s 0 (Listing.started n s.PC) s where
  same := rfl
  start := rfl
  limit := rfl
  length_le := le_refl _
  length_limit _ := Nat.zero_le _
  complete _ := .inl rfl
  unowned a h := by cases h

theorem ListedFrom.pull {n : Int} {s : State} {k : Nat} {l : Listing} {t : State} (h : ListedFrom n s k l t) :
    ListedFrom n s (k + 1) (l.pull t).1 (l.pull t).2 := by
  rcases pull_cases l t with ⟨hend, hpull⟩ | ⟨hend, pair, next, u, hentry, hpull⟩ | ⟨hend, a, u, hsame, -, hun, hpull⟩
  · rw [hpull]
    refine { h with length_le := Nat.le_succ_of_le h.length_le, complete := fun hnone => .inr ?_ }
    have hlimit : l.limit = some l.pairs.length := by
      by_contra hne
      rw [ended_eq_false.2 ⟨hnone, hne⟩] at hend
      cases hend
    rw [h.limit] at hlimit
    split at hlimit
    · next hn => exact ⟨hn, (Option.some.inj hlimit).symm⟩
    · cases hlimit
  · rw [hpull]
    obtain ⟨hnone, hlimit⟩ := ended_eq_false.1 hend
    have below : 0 ≤ n → l.pairs.length ≠ n.toNat := fun hn heq => by
      rw [h.limit, if_pos hn, heq] at hlimit
      exact hlimit rfl
    have count : l.pairs.length = k := (h.complete hnone).resolve_right fun ⟨hn, heq⟩ => below hn heq
    have hlength : (l.pairs ++ [pair]).length = l.pairs.length + 1 := by simp
    exact {
      same := sameButDevices_trans h.same (listEntry_frame hentry)
      start := h.start
      limit := h.limit
      length_le := by rw [hlength, count]
      length_limit := fun hn => by rw [hlength]; exact Nat.lt_of_le_of_ne (h.length_limit hn) (below hn)
      complete := fun _ => .inl (by rw [hlength, count])
      unowned := h.unowned }
  · rw [hpull]
    exact {
      same := sameButDevices_trans h.same hsame
      start := h.start
      limit := h.limit
      length_le := Nat.le_succ_of_le h.length_le
      length_limit := h.length_limit
      complete := fun hnone => by cases hnone
      unowned := fun b hb => by
        cases hb
        rwa [readableAt_congr (congrArg State.devices h.same)] at hun }

/-! ## A listing over RAM and ROM -/

/-- The address of the `j`-th pair: each lies past the instruction before it (R340). -/
def State.listAddress (s : State) : Nat → Word
  | 0 => s.PC
  | j + 1 => s.listAddress j + BitVec.ofNat 16 (instrLength (s.byteAt (s.listAddress j)))

/-- A listing that has met RAM and ROM only: the state is the same, and the pairs are those of the bytes. -/
structure ListedBytes (s : State) (l : Listing) (t : State) : Prop where
  unchanged : t = s
  next : l.next = s.listAddress l.pairs.length
  pairs : ∀ j x, l.pairs[j]? = some x → x = (s.listAddress j, s.textAt (s.listAddress j))

theorem listedBytes_started (n : Int) (s : State) : ListedBytes s (Listing.started n s.PC) s where
  unchanged := rfl
  next := rfl
  pairs j x h := by simp [Listing.started] at h

theorem ListedBytes.pull {s : State} {l : Listing} {t : State} (hall : ∀ a, holdsBytes s.devices a = true)
    (h : ListedBytes s l t) : ListedBytes s (l.pull t).1 (l.pull t).2 := by
  obtain ⟨rfl, hnext, hpairs⟩ := h
  have hheld := listEntry_holds hall l.next
  rcases pull_cases l t with ⟨-, hpull⟩ | ⟨-, pair, next, u, hentry, hpull⟩ | ⟨-, a, u, -, hentry, -, -⟩
  · rw [hpull]
    exact ⟨rfl, hnext, hpairs⟩
  · rw [hpull]
    cases hheld.symm.trans hentry
    refine ⟨rfl, ?next, fun j x hx => ?pairs⟩
    case next =>
      rw [hnext]
      simp only [List.length_append, List.length_singleton]
      rfl
    case pairs =>
      rw [List.getElem?_append] at hx
      split at hx
      · exact hpairs j x hx
      · next hj =>
        have hx' : j = l.pairs.length ∧ (l.next, t.textAt l.next) = x := by
          have hj' : j - l.pairs.length = 0 := by
            by_contra hne
            rw [List.getElem?_eq_none (by simp; omega)] at hx
            cases hx
          rw [hj'] at hx
          exact ⟨by omega, Option.some.inj hx⟩
        rw [← hx'.2, hx'.1, hnext]
  · cases hheld.symm.trans hentry

/-- Settles O50: the two inductions on the pulls, the calls by their definition, and the examples evaluated. -/
theorem listingChangesNothing : Obligations.ListingChangesNothing := by
  refine ⟨fun n k s t l hlist => ?_, fun n k s hp => ?_, fun a => ⟨rfl, rfl, rfl, rfl⟩, by decide⟩
  · have hl : l = (listCommands n k s).1 := by rw [hlist]
    have ht : t = (listCommands n k s).2 := by rw [hlist]
    have listed : ListedFrom n s k l t := by
      have := pulls_induction (motive := ListedFrom n s) (fun _ _ _ => ListedFrom.pull) k (listedFrom_started n s)
      rwa [Nat.zero_add, ← listCommands, ← hl, ← ht] at this
    refine ⟨listed.same, listed.start, listed.length_le, listed.length_limit, fun hnone hn hk => ?_, fun hnone hn => ?_,
      listed.unowned, fun hall => ?_⟩
    · have := listed.length_limit hn
      have := listed.complete hnone
      omega
    · have := listed.complete hnone
      omega
    · have bytes : ListedBytes s l t := by
        have := pulls_induction (motive := fun _ => ListedBytes s) (fun _ _ _ => ListedBytes.pull hall) k (j := 0)
          (listedBytes_started n s)
        rwa [← listCommands, ← hl, ← ht] at this
      refine ⟨bytes.unchanged, fun x hx => ?_, fun j x y hx hy => ?_, fun x hx => ?_⟩
      · rw [bytes.pairs 0 x hx]
        rfl
      · rw [bytes.pairs j x hx, bytes.pairs (j + 1) y hy]
        rfl
      · obtain ⟨j, hj⟩ := List.mem_iff_getElem?.1 hx
        rw [bytes.pairs j x hj]
        rfl
  · refine ⟨by simp only [perform, startListing, whenRunning_running hp], fun l hl => ⟨pull_sameButDevices l s,
      (pull_start_limit l s).1, ?_, ?_⟩⟩
    · simp only [perform, nextOfListing, onListing, whenRunning_running hp, hl]
    · simp only [perform, restartListing, onListing, whenRunning_running hp, hl, Listing.restarted]

end Sys2Proof.Machine
end
